-- ==== Sys2Proof/Word.lean ====
section
/-! DEFINITION. The word types of the TRAX2 frame core (00_scope.md R8, R9): what the spec treats as bits. -/

namespace Sys2Proof

/-- A byte (R9). -/
abbrev Byte := BitVec 8

/-- A 16-bit field: a frame's `length`, a CRC register. -/
abbrev Half := BitVec 16

/-- A 32-bit operand or register: `arg`, `FCOUNT`. -/
abbrev Word := BitVec 32

/-- A 64-bit field: `din`, `res`. -/
abbrev DWord := BitVec 64

end Sys2Proof
end

