-- ==== Sys2Proof/Config.lean ====
section
/-! DEFINITION. What a build of the block fixes (00_scope.md R6, R7) and the values the spec leaves free. -/

namespace Sys2Proof

/-- The categories of a frame id (30_encoding.md R71). Codes 9 to 15 are never produced (U14): they have no constructor. -/
inductive Category where
  | notRegistered | moduleInfoResp | serialNumberResp | setConfigDone | setAcqParamsDone
  | getAcqParamsResp | getFunctionalModeResp | dataReport | configResponse
deriving DecidableEq, Repr

/-- Which bytes the reassembler's CRC test covers (R6 `CRC_SLICE`, 43_reassembler.md R169; 90_conflicts.md C1). -/
inductive CrcSlice where
  | perFrame | bufferEnd
deriving DecidableEq, Repr

/-- The eight frame-id parameters of the registry (42_length_validator.md R142). -/
structure RegistryIds where
  moduleInfoResp : Byte
  serialNumberResp : Byte
  setConfigDone : Byte
  setAcqParamsDone : Byte
  getAcqParamsResp : Byte
  getFunctionalModeResp : Byte
  dataReport : Byte
  configResponse : Byte
deriving DecidableEq, Repr

/-- The eight ids, in the order of R142's table. -/
def RegistryIds.toList (r : RegistryIds) : List Byte :=
  [r.moduleInfoResp, r.serialNumberResp, r.setConfigDone, r.setAcqParamsDone,
   r.getAcqParamsResp, r.getFunctionalModeResp, r.dataReport, r.configResponse]

/-- The build parameters (R6). `FC_BASE`, `SCAN_RATE` and `PUSH_RATE` are left out: no rule depends on them
(U17; log entry 19). `workCap = none` is an unbounded working buffer (DESIGN CHOICE, log entry 1). -/
structure Params where
  crcUnroll : Nat
  boPipe : Bool
  crcSlice : CrcSlice
  pendCap : Nat
  workCap : Option Nat
  evqDepth : Nat
  ids : RegistryIds
deriving DecidableEq, Repr

/-- A legal registry: id `0x02` is MODULE_INFO_RESP, the ids are distinct, `0x01` and `0x06` are none of them
(R141, R142). -/
def RegistryIds.legal (r : RegistryIds) : Bool :=
  decide (r.moduleInfoResp = 0x02#8) && decide r.toList.Nodup
    && !r.toList.contains 0x01#8 && !r.toList.contains 0x06#8

/-- The legal values R6 gives its parameters. -/
def Params.legal (p : Params) : Bool :=
  decide (1 ≤ p.crcUnroll) && decide (p.crcUnroll ≤ 8)
    && decide (2 ≤ p.pendCap) && decide (p.pendCap ≤ 65535)
    && decide (1 ≤ p.evqDepth) && p.ids.legal

/-- The ids R142 suggests [from general knowledge, not in source], but for the source-confirmed `0x02`.
PRESUMED (log entry 2): unsafe where a claim rests on one of them. -/
def RegistryIds.suggested : RegistryIds where
  moduleInfoResp := 0x02#8
  serialNumberResp := 0x35#8
  setConfigDone := 0x13#8
  setAcqParamsDone := 0x1A#8
  getAcqParamsResp := 0x1B#8
  getFunctionalModeResp := 0x51#8
  dataReport := 0x05#8
  configResponse := 0x08#8

/-- R6's defaults; the depth 64 and the unbounded working buffer are the default table of 95_test_vectors.md
(DESIGN CHOICE, log entry 1: R6 leaves both OPEN). -/
def Params.default : Params where
  crcUnroll := 8
  boPipe := false
  crcSlice := .perFrame
  pendCap := 65535
  workCap := none
  evqDepth := 64
  ids := RegistryIds.suggested

/-- The free value of `RA.COUNT` and `RA.PENDLEN` while BUSY (R182, R183, U5), by draw number. -/
opaque Config.freeWord : Nat → Word

/-- The free value on `crc_out` when `crc_n > CRC_UNROLL` (40_crc16.md R103, U4), by draw number and pins. -/
opaque Config.freeCrc : Nat → Half → DWord → BitVec 4 → Half

/-- Whether the host moves first when both agents have a step (60_exceptions.md R205, U12), by draw number. -/
opaque Config.freeHostFirst : Nat → Bool

end Sys2Proof
end

