-- ==== Sys2Proof/Syntax.lean ====
section
/-! DEFINITION. The command transaction (30_encoding.md R60), the command set (R78) and the names under which a
transaction is rejected (R64). -/

namespace Sys2Proof

/-- A command transaction on the port (R60). The chunk of `RA.PUSH` comes from the chunk stream (R69). -/
structure Command where
  op : Byte
  arg : Word
  din : DWord
deriving DecidableEq, Repr

/-- The commands of R78, one constructor per row of the opcode table, each with the operands its format gives
(R62, R63, R65, R66); operand bits a format ignores are no operand (R67). -/
inductive Instr where
  /-- `CRC.FOLD crc, [bytes]` (R103): `n = d.length` bytes, 1 to CRC_UNROLL. -/
  | crcFold (crcIn : Half) (d : List Byte)
  | boPack16Be (v : Half)
  | boPack16Le (v : Half)
  | boPackF32Be (v : Word)
  | boPackF32Le (v : Word)
  | boUnpack16Be (b0 b1 : Byte)
  | boUnpack16Le (b0 b1 : Byte)
  | boUnpackF32Be (b0 b1 b2 b3 : Byte)
  | boUnpackF32Le (b0 b1 b2 b3 : Byte)
  | flvCheck (id : Byte) (len : Half) (cfg : Byte)
  /-- `RA.PUSH` (R161): the next `n` bytes of the chunk stream. -/
  | raPush (n : Word)
  | raSetpol (skip : Bool)
  | raStatus
  | raCount
  | raPendlen
  | raClear
  | raEvpop
deriving DecidableEq, Repr

/-- Why the decoder names no command. -/
inductive Reject where
  /-- An op value that names no command in the map (R64, R78). -/
  | reservedOp (op : Byte)
  /-- A format C code with more bytes than CRC_UNROLL (R62, R64). -/
  | foldTooLong (n : Nat)
  /-- A byte list shorter than one transaction (no rule of the spec: the port always gives whole transactions). -/
  | truncated
deriving DecidableEq, Repr

end Sys2Proof
end

