-- ==== Sys2Proof/WellFormed.lean ====
section
/-! DEFINITION. Which terms of `Instr` the encodings can express under a build's parameters. -/

namespace Sys2Proof

/-- Only `CRC.FOLD` has a check: it folds 1 to 8 bytes (R62) and at most CRC_UNROLL of them (R64). Every other
operand has exactly the width its format gives. -/
def WellFormed (p : Params) : Instr → Bool
  | .crcFold _ d => decide (1 ≤ d.length) && decide (d.length ≤ 8) && decide (d.length ≤ p.crcUnroll)
  | .boPack16Be _ => true
  | .boPack16Le _ => true
  | .boPackF32Be _ => true
  | .boPackF32Le _ => true
  | .boUnpack16Be _ _ => true
  | .boUnpack16Le _ _ => true
  | .boUnpackF32Be _ _ _ _ => true
  | .boUnpackF32Le _ _ _ _ => true
  | .flvCheck _ _ _ => true
  | .raPush _ => true
  | .raSetpol _ => true
  | .raStatus => true
  | .raCount => true
  | .raPendlen => true
  | .raClear => true
  | .raEvpop => true

end Sys2Proof
end

