-- ==== Sys2Proof/Decode.lean ====
section
/-! DEFINITION. The decoder (30_encoding.md R61 to R66, R78), total on every transaction, and the encoder written
from the same tables; the 13-byte image of a transaction and the opcode table's numbering of its bits. -/

namespace Sys2Proof

/-- Lane `j` of `din` is `din[8j+7:8j]` (R60). -/
def lane (din : DWord) (j : Nat) : Byte := din.extractLsb' (8 * j) 8

/-- Lanes 0 to `n-1`, in order. -/
def lanes (din : DWord) (n : Nat) : List Byte := (List.range n).map (lane din)

/-- The lanes that hold the bytes `bs` in order, every further lane 0. -/
def ofLanes : List Byte → DWord
  | [] => 0
  | b :: bs => (ofLanes bs <<< 8) ||| b.setWidth 64

/-- Format C (R62): `n = op[2:0] + 1` bytes; with `n > CRC_UNROLL` the code is reserved (R64). -/
def decodeFold (p : Params) (c : Command) : Except Reject Instr :=
  let n := (c.op.extractLsb' 0 3).toNat + 1
  if n ≤ p.crcUnroll then .ok (.crcFold (c.arg.extractLsb' 0 16) (lanes c.din n))
  else .error (.foldTooLong n)

/-- The opcode map (R78): every op value names one command or is reserved. -/
def decode (p : Params) (c : Command) : Except Reject Instr :=
  if c.op &&& 0xF8#8 = 0x00#8 then decodeFold p c
  else if c.op = 0x40#8 then .ok (.boPack16Be (c.arg.extractLsb' 0 16))
  else if c.op = 0x41#8 then .ok (.boPack16Le (c.arg.extractLsb' 0 16))
  else if c.op = 0x42#8 then .ok (.boPackF32Be c.arg)
  else if c.op = 0x43#8 then .ok (.boPackF32Le c.arg)
  else if c.op = 0x44#8 then .ok (.boUnpack16Be (lane c.din 0) (lane c.din 1))
  else if c.op = 0x45#8 then .ok (.boUnpack16Le (lane c.din 0) (lane c.din 1))
  else if c.op = 0x46#8 then
    .ok (.boUnpackF32Be (lane c.din 0) (lane c.din 1) (lane c.din 2) (lane c.din 3))
  else if c.op = 0x47#8 then
    .ok (.boUnpackF32Le (lane c.din 0) (lane c.din 1) (lane c.din 2) (lane c.din 3))
  else if c.op = 0x80#8 then
    .ok (.flvCheck (c.arg.extractLsb' 0 8) (c.arg.extractLsb' 8 16) (c.arg.extractLsb' 24 8))
  else if c.op = 0xC0#8 then .ok (.raPush c.arg)
  else if c.op = 0xC1#8 then .ok (.raSetpol (c.arg.getLsbD 0))
  else if c.op = 0xC2#8 then .ok .raStatus
  else if c.op = 0xC3#8 then .ok .raCount
  else if c.op = 0xC4#8 then .ok .raPendlen
  else if c.op = 0xC5#8 then .ok .raClear
  else if c.op = 0xC6#8 then .ok .raEvpop
  else .error (.reservedOp c.op)

/-- The transaction of a command; bits its format ignores are written 0 (DESIGN CHOICE, log entry 15). -/
def encode : Instr → Command
  | .crcFold crcIn d => ⟨BitVec.ofNat 8 (d.length - 1), crcIn.setWidth 32, ofLanes d⟩
  | .boPack16Be v => ⟨0x40#8, v.setWidth 32, 0⟩
  | .boPack16Le v => ⟨0x41#8, v.setWidth 32, 0⟩
  | .boPackF32Be v => ⟨0x42#8, v, 0⟩
  | .boPackF32Le v => ⟨0x43#8, v, 0⟩
  | .boUnpack16Be b0 b1 => ⟨0x44#8, 0, ofLanes [b0, b1]⟩
  | .boUnpack16Le b0 b1 => ⟨0x45#8, 0, ofLanes [b0, b1]⟩
  | .boUnpackF32Be b0 b1 b2 b3 => ⟨0x46#8, 0, ofLanes [b0, b1, b2, b3]⟩
  | .boUnpackF32Le b0 b1 b2 b3 => ⟨0x47#8, 0, ofLanes [b0, b1, b2, b3]⟩
  | .flvCheck id len cfg => ⟨0x80#8, cfg ++ len ++ id, 0⟩
  | .raPush n => ⟨0xC0#8, n, 0⟩
  | .raSetpol s => ⟨0xC1#8, (BitVec.ofBool s).setWidth 32, 0⟩
  | .raStatus => ⟨0xC2#8, 0, 0⟩
  | .raCount => ⟨0xC3#8, 0, 0⟩
  | .raPendlen => ⟨0xC4#8, 0, 0⟩
  | .raClear => ⟨0xC5#8, 0, 0⟩
  | .raEvpop => ⟨0xC6#8, 0, 0⟩

/-- A transaction as 13 bytes: op, then the four bytes of `arg` low byte first, then the eight lanes of `din` in
order (DESIGN CHOICE, log entry 14: the spec gives the fields no common byte layout). -/
def Command.toBytes (c : Command) : List Byte :=
  c.op :: ((List.range 4).map (fun j => c.arg.extractLsb' (8 * j) 8) ++ lanes c.din 8)

/-- The transaction at the head of a byte list, and the bytes after it. -/
def Command.ofBytes : List Byte → Option (Command × List Byte)
  | op :: a0 :: a1 :: a2 :: a3 :: d0 :: d1 :: d2 :: d3 :: d4 :: d5 :: d6 :: d7 :: rest =>
    some (⟨op, a3 ++ a2 ++ a1 ++ a0, ofLanes [d0, d1, d2, d3, d4, d5, d6, d7]⟩, rest)
  | _ => none

/-- Decoding from bytes: the command and the bytes after its transaction. -/
def decodeBytes (p : Params) (bs : List Byte) : Except Reject (Instr × List Byte) :=
  match Command.ofBytes bs with
  | none => .error .truncated
  | some (c, rest) =>
    match decode p c with
    | .ok i => .ok (i, rest)
    | .error e => .error e

/-- The 13 bytes of a transaction whose low `nbits` bits are those of `w`, bit 0 the least significant of the op
byte, and whose every higher bit is 0. -/
def tableBytes (nbits w : Nat) : List Byte :=
  (List.range 13).map (fun j => BitVec.ofNat 8 ((w % 2 ^ nbits) >>> (8 * j)))

/-- What the decoder reads from a word numbered as the opcode table numbers it, under the default build. -/
def decodeTableWord (nbits w : Nat) : Option Instr :=
  match decodeBytes Params.default (tableBytes nbits w) with
  | .ok (i, _) => some i
  | .error _ => none

end Sys2Proof
end

