-- ==== Sys2Proof/Machine/State.lean ====
section
/-! DEFINITION. The state of the block (10_state.md R20), of its host port (30_encoding.md R60, R68) and of the
two agents' interleaving (00_scope.md R12), as plain data; the state after reset (R33, R230); how a run can stop. -/

namespace Sys2Proof.Machine

/-- Validator reasons (R73); code 7 is never produced (U14): it has no constructor. -/
inductive Reason where
  | ok | badLength | unknownId | lengthMismatch | tooShort | unknownConfigId | configTooShort
deriving DecidableEq, Repr

/-- What `FLV` answers (R148): `ok`, `cat`, `reason`. -/
structure Verdict where
  ok : Bool
  cat : Category
  reason : Reason
deriving DecidableEq, Repr

/-- An event (R70): the frame, its header fields and whether its checksum disagreed. -/
structure Event where
  id : Byte
  length : Half
  crcExpected : Half
  crcError : Bool
  category : Category
  bytes : List Byte
deriving DecidableEq, Repr

/-- `SC` (R20, R23): no chunk is being decoded, or the working buffer and the cursor. -/
inductive ScanState where
  | idle
  | scan (w : List Byte) (cur : Nat)
deriving DecidableEq, Repr

/-- `BO_REG` (R20, R28): "32-bit word plus 4 bytes plus a 3-bit count". -/
structure BoReg where
  word : Word
  b0 : Byte
  b1 : Byte
  b2 : Byte
  b3 : Byte
  count : BitVec 3
deriving DecidableEq, Repr

/-- `BO_REG` after reset (R33): "word 0, bytes 0, count 0". -/
def BoReg.zero : BoReg := ⟨0, 0, 0, 0, 0, 0⟩

/-- The answer to one command (R60): `res` and the `dout` bytes. `early` is what `res_data` shows in the cycle the
command is taken, where the spec says it (R243, R245); `none` where it gives no timing (log entry 11). -/
structure Reply where
  res : DWord
  dout : List Byte
  early : Option DWord
deriving DecidableEq, Repr

/-- The input pins of the direct CRC port (R68); of `bytes`, CRC_UNROLL lanes exist, the byte folded
first in the lowest (DESIGN CHOICE, log entry 8). -/
structure CrcPins where
  seed : Half
  bytes : DWord
  n : BitVec 4
deriving DecidableEq, Repr

/-- The two agents (R12). -/
inductive Agent where
  | host | scanner
deriving DecidableEq, Repr

/-- Why a scan step rejects a candidate and advances by one (R168, R203). -/
inductive RejectCause where
  /-- `L = 0`: not counted. -/
  | zeroLength
  /-- `L` from 1 to 4. -/
  | shortLength
  /-- A CRC mismatch with `SKIP = 1`. -/
  | checksum
  /-- `FLV` answers `ok = 0` for this reason. -/
  | validator (r : Reason)
deriving DecidableEq, Repr

/-- What one iteration of the scan decides at a cursor (R168). -/
inductive ScanDecision where
  | finish
  | reject (cause : RejectCause)
  | accept (ev : Event)
deriving DecidableEq, Repr

/-- The error outcomes O1 to O8 (R201), in the order of their codes. -/
inductive ErrorOutcome where
  | incomplete | checksumMismatch | unrecognizedFrame | lengthMismatch | truncatedComponentList
  | shortLength | illegalCommand | bufferOverflow
deriving DecidableEq, Repr

/-- What the next step is: a reset cycle, nothing to do, a scan step, a command, or a reserved command. -/
inductive Move where
  | reset
  | idle
  | scan
  | command (i : Instr)
  | reserved
deriving DecidableEq, Repr

/-- The sticky error bits as faults. R204: "In a model, `ERR_ILLOP = 1` or `ERR_OVF = 1` is a fault". The hardware
goes on (R200) and this model goes on with it: the fault is RECORDED in the state's bits, and Safety.lean reads it
there; no step stops with one (log entry 6). -/
inductive Fault where
  /-- `ERR_ILLOP = 1`, set by a reserved command (R64, O7; `takeReserved`). Recorded, never raised by a step. Safe
  for claims that carry the premise that no fault is recorded. -/
  | illegalCommand
  /-- `ERR_OVF = 1`, set by a scan's finish or by `RA.PUSH` (R163, R170, O8). Recorded, never raised by a step. Safe
  for claims that carry the premise that no fault is recorded. -/
  | bufferOverflow
deriving DecidableEq, Repr

/-- Why a command has no meaning here. -/
inductive Refusal where
  /-- A row of the opcode table without a meaning yet; raised by `exec`'s arm alone. Safe. No arm is left so. -/
  | notModelled (mnemonic : String)
deriving DecidableEq, Repr

/-- Everything the spec gives the machine, the port's side of the transaction and the model's own bookkeeping. -/
structure State where
  /-- The build's parameters (R6, R7): no step writes them. -/
  cfg : Params
  /-- `PEND` (R22). -/
  pend : List Byte
  /-- `SC` (R23). -/
  sc : ScanState
  /-- `FCOUNT` (R24). -/
  fcount : Word
  /-- `SKIP` (R25), also the register `CTRL` (R30). -/
  skip : Bool
  /-- `EVQ` (R26), oldest first. -/
  evq : List Event
  /-- `ERR_ILLOP` (R27), sticky. -/
  errIllop : Bool
  /-- `ERR_OVF` (R27), sticky. -/
  errOvf : Bool
  /-- `BO_REG` (R28); stays zero in a build with BO_PIPE = 0, which has no such register (log entry 9). -/
  boReg : BoReg
  /-- The commands the host has still to issue, the first on the port (R49, R60, R68; log entry 14). -/
  cmds : List Command
  /-- The chunk-stream bytes not yet taken (R69). -/
  stream : List Byte
  /-- The pin `rst` (R68, R230). -/
  rst : Bool
  /-- The direct CRC port's input pins (R68). -/
  crcPort : CrcPins
  /-- The last completed command's reply (R60). -/
  resp : Option Reply
  /-- MODEL'S OWN: how many free values have been drawn (log entry 7). -/
  draws : Nat
  /-- MODEL'S OWN: who moves next if both agents have a step; `none` leaves it to a free value (log entry 3). -/
  turn : Option Agent
deriving DecidableEq, Repr

/-- Reset value of the policy flag (R6 `SKIP_RESET`: "1 (true)"). -/
abbrev skipReset : Bool := true

/-- The machine right after reset in a build with the parameters `p`: R33's table, no command pending, no chunk
byte waiting, all input pins 0 (DESIGN CHOICE, log entries 8, 12, 13, 14). -/
def State.resetWith (p : Params) : State where
  cfg := p
  pend := []
  sc := .idle
  fcount := 0
  skip := skipReset
  evq := []
  errIllop := false
  errOvf := false
  boReg := BoReg.zero
  cmds := []
  stream := []
  rst := false
  crcPort := ⟨0, 0, 0⟩
  resp := none
  draws := 0
  turn := none

/-- The machine right after reset, in the default build (log entries 1, 2). -/
def State.reset : State := State.resetWith Params.default

end Sys2Proof.Machine
end

