-- ==== Sys2Proof/Machine/Operands.lean ====
section
/-! DEFINITION. Byte sequences and the fields read from them (00_scope.md R9, R10; 20_memory.md R41 to R43;
30_encoding.md R72). -/

namespace Sys2Proof.Machine

/-- `s[a ..< b]`, empty when `a >= b` (R9). -/
def slice (s : List Byte) (a b : Nat) : List Byte := (s.drop a).take (b - a)

/-- The byte at index `i`; every use in the spec checks `i < |s|` first (R9, R10), so what lies past the end does not matter. -/
def byteAt (s : List Byte) (i : Nat) : Byte := s.getD i 0

/-- Big-endian 16-bit field read, high byte at `s[i]` (R10). -/
def u16be (s : List Byte) (i : Nat) : Half :=
  ((byteAt s i).setWidth 16 <<< 8) ||| (byteAt s (i + 1)).setWidth 16

/-- A 16-bit value as two bytes, big-endian (R43). -/
def bytes16be (v : Half) : List Byte := [v.extractLsb' 8 8, v.extractLsb' 0 8]

/-- Smallest legal frame length (R6 `MIN_FRAME_LEN`). -/
abbrev minFrameLen : Nat := 5

/-- The frame-id byte of a frame, at offset 2 (R72). -/
abbrev frameId (f : List Byte) : Byte := byteAt f 2

/-- The config-id byte of a config-response frame, at offset 3 (R65, R146). -/
abbrev frameCfg (f : List Byte) : Byte := byteAt f 3

/-- The payload of a frame, offsets 3 to `L-3` (R72). -/
def framePayload (f : List Byte) : List Byte := slice f 3 (f.length - 2)

/-- The trailer of a frame of length `n`, `u16be(F, n-2)` (R70, R72). -/
abbrev frameTrailer (f : List Byte) (n : Nat) : Half := u16be f (n - 2)

end Sys2Proof.Machine
end

