-- ==== Sys2Proof/Machine/Flags.lean ====
section
/-! DEFINITION. Every flag and register view (10_state.md R29 to R32), every code (30_encoding.md R71, R73; 60_exceptions.md
R201) and every packed result word (R65, R70). -/

namespace Sys2Proof.Machine

/-- `BUSY` is `SC != Idle` (R23). -/
def State.busy (s : State) : Bool :=
  match s.sc with
  | .idle => false
  | .scan _ _ => true

/-- `EVQNE`: `|EVQ| > 0` (R29). -/
def State.evqNe (s : State) : Bool := decide (0 < s.evq.length)

/-- `EVQFULL`: `|EVQ| = EVQ_DEPTH` (R29). -/
def State.evqFull (s : State) : Bool := decide (s.evq.length = s.cfg.evqDepth)

/-- `STATUS` (R29, R185): `0b00 : ERR_OVF : ERR_ILLOP : EVQFULL : EVQNE : BUSY : SKIP`. -/
def State.status (s : State) : BitVec 8 :=
  0#2 ++ BitVec.ofBool s.errOvf ++ BitVec.ofBool s.errIllop ++ BitVec.ofBool s.evqFull
    ++ BitVec.ofBool s.evqNe ++ BitVec.ofBool s.busy ++ BitVec.ofBool s.skip

/-- `CTRL` (R30): the one bit `SKIP`. -/
def State.ctrl (s : State) : BitVec 1 := BitVec.ofBool s.skip

/-- `COUNT` while `SC = Idle` (R31). -/
def State.count (s : State) : Word := s.fcount

/-- `PENDLEN` while `SC = Idle` (R31): `|PEND|`, zero-extended to 32 bits. -/
def State.pendLen (s : State) : Word := BitVec.ofNat 32 s.pend.length

/-- The output `ev_pending` (R68, R210): 1 exactly when `|EVQ| > 0`. -/
def State.evPending (s : State) : Bool := s.evqNe

/-- The outputs `res_valid` and `res_data` at transaction level (R60, R68): the last completed command's result. -/
def State.resData (s : State) : Option DWord := s.resp.map Reply.res

/-- The `dout` stream of the last completed command (R60), each byte with its `dout_last` mark (R68). -/
def State.doutStream (s : State) : List (Byte × Bool) :=
  match s.resp with
  | none => []
  | some r => r.dout.zipIdx.map (fun x => (x.1, decide (x.2 + 1 = r.dout.length)))

/-- Category codes (R71). -/
def categoryCode : Category → BitVec 4
  | .notRegistered => 0
  | .moduleInfoResp => 1
  | .serialNumberResp => 2
  | .setConfigDone => 3
  | .setAcqParamsDone => 4
  | .getAcqParamsResp => 5
  | .getFunctionalModeResp => 6
  | .dataReport => 7
  | .configResponse => 8

/-- Reason codes (R73). -/
def reasonCode : Reason → BitVec 3
  | .ok => 0
  | .badLength => 1
  | .unknownId => 2
  | .lengthMismatch => 3
  | .tooShort => 4
  | .unknownConfigId => 5
  | .configTooShort => 6

/-- The codes of the outcomes O1 to O8 (R201). -/
def outcomeCode : ErrorOutcome → Nat
  | .incomplete => 1
  | .checksumMismatch => 2
  | .unrecognizedFrame => 3
  | .lengthMismatch => 4
  | .truncatedComponentList => 5
  | .shortLength => 6
  | .illegalCommand => 7
  | .bufferOverflow => 8

/-- `res` of `FLV.CHECK` (R65): `res[0]` ok, `res[4:1]` category, `res[7:5]` reason, the rest 0. -/
def verdictWord (v : Verdict) : DWord :=
  0#56 ++ reasonCode v.reason ++ categoryCode v.cat ++ BitVec.ofBool v.ok

/-- The header word of an event (R70), from `res[63:46] = 0` down to `res[0] = 1`. -/
def eventHeader (e : Event) : DWord :=
  0#18 ++ categoryCode e.category ++ BitVec.ofBool e.crcError ++ e.crcExpected ++ e.length ++ e.id ++ 1#1

/-- `BO_REG` and every BO result as the result word (R63): value or bytes in `res[31:0]`, the count in `res[34:32]`. -/
def BoReg.res (r : BoReg) : DWord :=
  0#29 ++ r.count ++ (r.word ||| (r.b3 ++ r.b2 ++ r.b1 ++ r.b0))

end Sys2Proof.Machine
end

