-- ==== Sys2Proof/Machine/Ops.lean ====
section
/-! DEFINITION. The named operations on the state: the pseudocode primitives (00_scope.md R11), the reply to a command
(30_encoding.md R60), the reserved-command outcome (R64, O7), overflow (O8), reset (70_reset_and_hazards.md R230) and
what the outside world does to the port. The block has no trap entry and no trap return (60_exceptions.md R200, R206):
`setIllop` and `setOvf` are its only error records. -/

namespace Sys2Proof.Machine

/-- `set_sticky(ERR_ILLOP)` (R11, R27). -/
def setIllop (s : State) : State := { s with errIllop := true }

/-- `set_sticky(ERR_OVF)` (R11, R27). -/
def setOvf (s : State) : State := { s with errOvf := true }

/-- `Emit(ev)`: append to the event FIFO (R11). -/
def emit (e : Event) (s : State) : State := { s with evq := s.evq ++ [e] }

/-- The state part of `Pop()`: remove the oldest event (R11). -/
def dropEvent (s : State) : State := { s with evq := s.evq.tail }

/-- Complete the command on the port with this reply: it leaves the port and the host has its result (R60). -/
def complete (r : Reply) (s : State) : State := { s with cmds := s.cmds.tail, resp := some r }

/-- A reply with `res` alone, of a command whose timing the spec does not give. -/
def plainReply (res : DWord) : Reply := ⟨res, [], none⟩

/-- A reply of a combinational command, whose result is on `res_data` in the command's own cycle (R245). -/
def directReply (res : DWord) : Reply := ⟨res, [], some res⟩

/-- A reserved command (R64, O7): "changes no state except `ERR_ILLOP <- 1`, and returns `res = 0` with no `dout`". -/
def takeReserved (s : State) : State := complete (plainReply 0) (setIllop s)

/-- The next free value has been used. -/
def drawn (s : State) : State := { s with draws := s.draws + 1 }

/-- A cycle with `rst = 1` (R230): every element of R33's table takes its reset value and no command is taken. The
host's pending commands, its stream and its pins are the host's and stay (log entry 13). -/
def resetBlock (s : State) : State :=
  { s with
    pend := [], sc := .idle, fcount := 0, skip := skipReset, evq := []
    errIllop := false, errOvf := false, boReg := BoReg.zero, resp := none, turn := none }

/-- The state change of `RA.CLEAR` (R184): "`BO_REG` is not touched". -/
def clearDecoder (s : State) : State :=
  { s with
    pend := [], fcount := 0, skip := skipReset, evq := []
    errIllop := false, errOvf := false }

/-- OUTSIDE WORLD: the host issues a command after those already pending (R49). -/
def issueCommand (c : Command) (s : State) : State := { s with cmds := s.cmds ++ [c] }

/-- OUTSIDE WORLD: bytes arrive on the chunk stream (R69). -/
def supplyChunk (bs : List Byte) (s : State) : State := { s with stream := s.stream ++ bs }

/-- OUTSIDE WORLD: the reset pin is driven (R68, R230). -/
def setRst (b : Bool) (s : State) : State := { s with rst := b }

/-- OUTSIDE WORLD: the direct CRC port's inputs are driven (R68). -/
def setCrcPort (p : CrcPins) (s : State) : State := { s with crcPort := p }

end Sys2Proof.Machine
end

