-- ==== Sys2Proof/Machine/ByteOrder.lean ====
section
/-! DEFINITION. The byte-order converter (41_byte_order.md): eight commands over one network and its optional
register. Patterns pass unchanged: no floating-point arithmetic (R120). -/

namespace Sys2Proof.Machine

/-- What a pack computes: the bytes and how many are valid, the word 0 (R63; log entry 9). -/
def packed (b0 b1 b2 b3 : Byte) (n : BitVec 3) : BoReg := ⟨0, b0, b1, b2, b3, n⟩

/-- What an unpack computes: the value, no bytes, count 0 (R63; log entry 9). -/
def unpacked (v : Word) : BoReg := ⟨v, 0, 0, 0, 0, 0⟩

/-- Load `BO_REG` in a build that has it (R28, R47). -/
def loadBoReg (r : BoReg) (s : State) : State :=
  { s with boReg := if s.cfg.boPipe then r else s.boReg }

/-- What `res_data` shows in the cycle a BO command is taken: its own result without the register, the previous
result with it (R121, R243). -/
def boEarly (r : BoReg) (s : State) : DWord := if s.cfg.boPipe then s.boReg.res else r.res

/-- A BO command with the result `r`: "the pipeline adds latency and changes no value" (R121). -/
def runBo (r : BoReg) (s : State) : Host.Outcome State Fault Refusal :=
  .next (complete ⟨r.res, [], some (boEarly r s)⟩ (loadBoReg r s))

/-- `BO.PACK16.BE` (R122). -/
def execBoPack16Be (v : Half) (s : State) : Host.Outcome State Fault Refusal :=
  runBo (packed (v.extractLsb' 8 8) (v.extractLsb' 0 8) 0 0 2) s

/-- `BO.PACK16.LE` (R123). -/
def execBoPack16Le (v : Half) (s : State) : Host.Outcome State Fault Refusal :=
  runBo (packed (v.extractLsb' 0 8) (v.extractLsb' 8 8) 0 0 2) s

/-- `BO.PACKF32.BE` (R124). -/
def execBoPackF32Be (v : Word) (s : State) : Host.Outcome State Fault Refusal :=
  runBo (packed (v.extractLsb' 24 8) (v.extractLsb' 16 8) (v.extractLsb' 8 8) (v.extractLsb' 0 8) 4) s

/-- `BO.PACKF32.LE` (R125). -/
def execBoPackF32Le (v : Word) (s : State) : Host.Outcome State Fault Refusal :=
  runBo (packed (v.extractLsb' 0 8) (v.extractLsb' 8 8) (v.extractLsb' 16 8) (v.extractLsb' 24 8) 4) s

/-- `BO.UNPACK16.BE` (R126): `u16be([b0, b1], 0)`, unsigned. -/
def execBoUnpack16Be (b0 b1 : Byte) (s : State) : Host.Outcome State Fault Refusal :=
  runBo (unpacked (((b0.setWidth 16 <<< 8) ||| b1.setWidth 16 : Half).setWidth 32)) s

/-- `BO.UNPACK16.LE` (R127). -/
def execBoUnpack16Le (b0 b1 : Byte) (s : State) : Host.Outcome State Fault Refusal :=
  runBo (unpacked (((b1.setWidth 16 <<< 8) ||| b0.setWidth 16 : Half).setWidth 32)) s

/-- `BO.UNPACKF32.BE` (R128): `b0:b1:b2:b3`. -/
def execBoUnpackF32Be (b0 b1 b2 b3 : Byte) (s : State) : Host.Outcome State Fault Refusal :=
  runBo (unpacked (b0 ++ b1 ++ b2 ++ b3)) s

/-- `BO.UNPACKF32.LE` (R129): `b3:b2:b1:b0`. -/
def execBoUnpackF32Le (b0 b1 b2 b3 : Byte) (s : State) : Host.Outcome State Fault Refusal :=
  runBo (unpacked (b3 ++ b2 ++ b1 ++ b0)) s

end Sys2Proof.Machine
end

