-- ==== Sys2Proof/Machine/Crc.lean ====
section
/-! DEFINITION. The CRC-16/CCITT generator (40_crc16.md): the function, `CRC.FOLD` and the direct port. -/

namespace Sys2Proof.Machine

/-- `CRC_POLY` (R100): x^16 + x^12 + x^5 + 1 without its top term. -/
abbrev crcPoly : Half := 0x1021#16

/-- `CRC_INIT` (R100). -/
abbrev crcInit : Half := 0x0000#16

/-- One turn of R102's loop: shift left, and if the bit shifted out is 1 exclusive-or the polynomial. -/
def crcBit (r : Half) : Half :=
  if r.getLsbD 15 then (r <<< 1) ^^^ crcPoly else r <<< 1

/-- `CRC16_STEP(c, b)` (R102): enter the byte in bits 15:8, then eight turns. -/
def crcStep (c : Half) (b : Byte) : Half :=
  crcBit (crcBit (crcBit (crcBit (crcBit (crcBit (crcBit (crcBit (c ^^^ (b.setWidth 16 <<< 8)))))))))

/-- `CRC16_FROM(c, s)` (R104). -/
def crcFrom (c : Half) : List Byte → Half
  | [] => c
  | b :: bs => crcFrom (crcStep c b) bs

/-- `CRC16(s)` (R104). -/
def crc16 (s : List Byte) : Half := crcFrom crcInit s

/-- `CRC.FOLD` (R103). A byte list no format C code can carry in this build (more than CRC_UNROLL bytes, or none) is
no command: the reserved outcome of R64 applies (log entry 16). -/
def execCrcFold (crcIn : Half) (d : List Byte) (s : State) : Host.Outcome State Fault Refusal :=
  if WellFormed s.cfg (.crcFold crcIn d) then
    .next (complete (directReply ((crcFrom crcIn d).setWidth 64)) s)
  else .next (takeReserved s)

/-- The direct combinational port (R68, R103): `crc_n = 0` returns the seed, up to CRC_UNROLL bytes are folded, more
give an unspecified value (U4, a free value; log entry 8). Which bits of `crc_bytes` hold the byte folded first the spec
does not say: byte `j` at bits `8j+7:8j`, as R60 numbers the lanes of `din` (DESIGN CHOICE, log entry 8). -/
def crcPortOut (p : Params) (draw : Nat) (q : CrcPins) : Half :=
  if q.n.toNat ≤ p.crcUnroll then crcFrom q.seed (lanes q.bytes q.n.toNat)
  else Config.freeCrc draw q.seed q.bytes q.n

/-- The output pin `crc_out` (R68). -/
def State.crcOut (s : State) : Half := crcPortOut s.cfg s.draws s.crcPort

end Sys2Proof.Machine
end

