-- ==== Sys2Proof/Machine/Validator.lean ====
section
/-! DEFINITION. The frame registry and the frame-length validator (42_length_validator.md). -/

namespace Sys2Proof.Machine

/-- `REGISTRY(id)` (R140, R142): "Every id not listed maps to `NONE`". -/
def registry (r : RegistryIds) (id : Byte) : Category :=
  if id = r.moduleInfoResp then .moduleInfoResp
  else if id = r.serialNumberResp then .serialNumberResp
  else if id = r.setConfigDone then .setConfigDone
  else if id = r.setAcqParamsDone then .setAcqParamsDone
  else if id = r.getAcqParamsResp then .getAcqParamsResp
  else if id = r.getFunctionalModeResp then .getFunctionalModeResp
  else if id = r.dataReport then .dataReport
  else if id = r.configResponse then .configResponse
  else .notRegistered

/-- `FIXED_LEN(cat)` (R143); `none` for the categories of no fixed length. -/
def fixedLen : Category → Option Nat
  | .notRegistered => none
  | .moduleInfoResp => some 13
  | .serialNumberResp => some 9
  | .setConfigDone => some 5
  | .setAcqParamsDone => some 5
  | .getAcqParamsResp => some 15
  | .getFunctionalModeResp => some 6
  | .dataReport => none
  | .configResponse => none

/-- `MIN_DATA_LEN` (R144). -/
abbrev minDataLen : Nat := 6

/-- `MIN_CONFIG_LEN` (R144). -/
abbrev minConfigLen : Nat := 7

/-- `DECL_CONFIG_ID` (R146). -/
abbrev declConfigId : Byte := 0x01#8

/-- `DECL_RESP_MIN_LEN` (R146). -/
abbrev declRespMinLen : Nat := 10

/-- A fixed-length category accepts its exact length alone (R143). -/
def checkFixed (cat : Category) (want len : Nat) : Verdict :=
  if len = want then ⟨true, cat, .ok⟩ else ⟨false, cat, .lengthMismatch⟩

/-- A data report is accepted from its minimum on (R144, R147). -/
def checkData (len : Nat) : Verdict :=
  if minDataLen ≤ len then ⟨true, .dataReport, .ok⟩ else ⟨false, .dataReport, .tooShort⟩

/-- A config response: minimum, then config id, then room for the declination value (R146, R148). -/
def checkConfig (len : Nat) (cfg : Byte) : Verdict :=
  if len < minConfigLen then ⟨false, .configResponse, .tooShort⟩
  else if cfg ≠ declConfigId then ⟨false, .configResponse, .unknownConfigId⟩
  else if len < declRespMinLen then ⟨false, .configResponse, .configTooShort⟩
  else ⟨true, .configResponse, .ok⟩

/-- `FLV(id, len, cfg)` (R148), its checks in the order written there. -/
def flv (r : RegistryIds) (id : Byte) (len : Half) (cfg : Byte) : Verdict :=
  let cat := registry r id
  if len.toNat < minFrameLen then ⟨false, cat, .badLength⟩
  else if cat = .notRegistered then ⟨false, cat, .unknownId⟩
  else
    match fixedLen cat with
    | some want => checkFixed cat want len.toNat
    | none => if cat = .dataReport then checkData len.toNat else checkConfig len.toNat cfg

/-- `FLV.CHECK` (R148): no state written, the result in the command's cycle (R245). -/
def execFlvCheck (id : Byte) (len : Half) (cfg : Byte) (s : State) : Host.Outcome State Fault Refusal :=
  .next (complete (directReply (verdictWord (flv s.cfg.ids id len cfg))) s)

end Sys2Proof.Machine
end

