-- ==== Sys2Proof/Machine/Reassembler.lean ====
section
/-! DEFINITION. The frame boundary detector and stateful reassembler (43_reassembler.md): the scan step and the seven
`RA.*` commands. -/

namespace Sys2Proof.Machine

/-- `CRC_TEST(W, cur, L)` (R169). -/
def crcTest (slc : CrcSlice) (w : List Byte) (cur len : Nat) : Half :=
  match slc with
  | .perFrame => crc16 (slice w cur (cur + len - 2))
  | .bufferEnd => crc16 (slice w cur (w.length - 2))

/-- The event of an accepted candidate `f` whose length field is `len` (R70, R168). -/
def eventOf (f : List Byte) (len : Half) (err : Bool) (cat : Category) : Event where
  id := frameId f
  length := len
  crcExpected := frameTrailer f len.toNat
  crcError := err
  category := cat
  bytes := f

/-- The checks of a complete candidate of length at least 5 (R168): first the checksum and its policy, then `FLV`
(R149, R203). -/
def judgeFrame (p : Params) (skip : Bool) (f : List Byte) (len computed : Half) : ScanDecision :=
  let err := computed != frameTrailer f len.toNat
  if err && skip then .reject .checksum
  else
    let v := flv p.ids (frameId f) len (frameCfg f)
    if v.ok then .accept (eventOf f len err v.cat) else .reject (.validator v.reason)

/-- One iteration of the scan at a cursor (R168), up to what it does to the state. -/
def scanDecision (p : Params) (skip : Bool) (w : List Byte) (cur : Nat) : ScanDecision :=
  if w.length - cur < 2 then .finish
  else
    let len := u16be w cur
    if w.length < cur + len.toNat then .finish
    else if len.toNat < minFrameLen then .reject (if len.toNat = 0 then .zeroLength else .shortLength)
    else judgeFrame p skip (slice w cur (cur + len.toNat)) len (crcTest p.crcSlice w cur len.toNat)

/-- Whether a rejected candidate is counted (R167): all but `L = 0`. -/
def RejectCause.counted : RejectCause → Bool
  | .zeroLength => false
  | .shortLength => true
  | .checksum => true
  | .validator _ => true

/-- The outcome code of what a step decided (R201); an accepted frame has O2 if its checksum disagreed. -/
def decisionOutcome : ScanDecision → Option ErrorOutcome
  | .finish => some .incomplete
  | .reject .zeroLength => some .shortLength
  | .reject .shortLength => some .shortLength
  | .reject .checksum => some .checksumMismatch
  | .reject (.validator .ok) => none
  | .reject (.validator .badLength) => some .shortLength
  | .reject (.validator .unknownId) => some .unrecognizedFrame
  | .reject (.validator .unknownConfigId) => some .unrecognizedFrame
  | .reject (.validator .lengthMismatch) => some .lengthMismatch
  | .reject (.validator .tooShort) => some .shortLength
  | .reject (.validator .configTooShort) => some .shortLength
  | .accept ev => if ev.crcError then some .checksumMismatch else none

/-- `Finish(W, cur)` (R170). -/
def finishScan (w : List Byte) (cur : Nat) (s : State) : State :=
  let r := w.drop cur
  if s.cfg.pendCap < r.length then setOvf { s with pend := [], sc := .idle }
  else { s with pend := r, sc := .idle }

/-- Reject: advance by one byte, count unless `L = 0` (R167, R168). -/
def rejectCandidate (w : List Byte) (cur : Nat) (cause : RejectCause) (s : State) : State :=
  { s with
    fcount := if cause.counted then s.fcount + 1 else s.fcount
    sc := .scan w (cur + 1) }

/-- Accept: count, emit, advance by `L` (R168). -/
def acceptFrame (w : List Byte) (cur : Nat) (ev : Event) (s : State) : State :=
  emit ev { s with fcount := s.fcount + 1, sc := .scan w (cur + ev.length.toNat) }

/-- Whether the scanner is held (R171): its step would emit and `EVQ` is full. -/
def scanHeld (s : State) : Bool :=
  match s.sc with
  | .idle => false
  | .scan w cur =>
    match scanDecision s.cfg s.skip w cur with
    | .accept _ => s.evqFull
    | .finish => false
    | .reject _ => false

/-- The scan step, in full (R168). With `SC = Idle` there is none; a held step changes nothing (R171). -/
def scanStep (s : State) : State :=
  match s.sc with
  | .idle => s
  | .scan w cur =>
    match scanDecision s.cfg s.skip w cur with
    | .finish => finishScan w cur s
    | .reject cause => rejectCandidate w cur cause s
    | .accept ev => if s.evqFull then s else acceptFrame w cur ev s

/-- Working-buffer overflow, possible only in BUFFER_END mode (R163). -/
def workOverflow (p : Params) (n : Nat) : Bool :=
  match p.crcSlice, p.workCap with
  | .bufferEnd, some cap => decide (cap < n)
  | .bufferEnd, none => false
  | .perFrame, _ => false

/-- The effect of `RA.PUSH` on the decoder for a chunk it takes whole (R162, R163). -/
def pushChunk (chunk : List Byte) (s : State) : State :=
  let w := s.pend ++ chunk
  if workOverflow s.cfg w.length then setOvf { s with pend := [], sc := .idle }
  else { s with pend := [], sc := .scan w 0 }

/-- `RA.PUSH` waits while BUSY (R165) and until its N bytes are on the chunk stream (R69; log entry 5). -/
def pushHolds (n : Nat) (s : State) : Bool := s.busy || decide (s.stream.length < n)

/-- `RA.PUSH` (R161, R162): the next N bytes of the stream are the chunk. Held, it has no effect and stays on the port
(log entry 4). -/
def execRaPush (n : Word) (s : State) : Host.Outcome State Fault Refusal :=
  if pushHolds n.toNat s then .next s
  else .next (complete (plainReply 0)
    (pushChunk (s.stream.take n.toNat) { s with stream := s.stream.drop n.toNat }))

/-- `RA.SETPOL` (R181): held while BUSY. -/
def execRaSetpol (skip : Bool) (s : State) : Host.Outcome State Fault Refusal :=
  if s.busy then .next s
  else .next (complete (plainReply 0) { s with skip := skip })

/-- `RA.STATUS` (R185): never held. -/
def execRaStatus (s : State) : Host.Outcome State Fault Refusal :=
  .next (complete (plainReply (s.status.setWidth 64)) s)

/-- A register read that is unspecified while BUSY (R31, R182, R183): then a free 32-bit value (log entry 7). -/
def readWord (v : Word) (s : State) : Host.Outcome State Fault Refusal :=
  if s.busy then .next (complete (plainReply ((Config.freeWord s.draws).setWidth 64)) (drawn s))
  else .next (complete (plainReply (v.setWidth 64)) s)

/-- `RA.COUNT` (R182). -/
def execRaCount (s : State) : Host.Outcome State Fault Refusal := readWord s.count s

/-- `RA.PENDLEN` (R183). -/
def execRaPendlen (s : State) : Host.Outcome State Fault Refusal := readWord s.pendLen s

/-- `RA.CLEAR` (R184): held while BUSY. -/
def execRaClear (s : State) : Host.Outcome State Fault Refusal :=
  if s.busy then .next s
  else .next (complete (plainReply 0) (clearDecoder s))

/-- `RA.EVPOP` (R186): never held. -/
def execRaEvpop (s : State) : Host.Outcome State Fault Refusal :=
  match s.evq with
  | [] => .next (complete (plainReply 0) s)
  | ev :: _ => .next (complete ⟨eventHeader ev, ev.bytes, none⟩ (dropEvent s))

/-- The commands that hold while BUSY (R165, R181, R184). -/
def waitsForIdle : Instr → Bool
  | .crcFold _ _ => false
  | .boPack16Be _ => false
  | .boPack16Le _ => false
  | .boPackF32Be _ => false
  | .boPackF32Le _ => false
  | .boUnpack16Be _ _ => false
  | .boUnpack16Le _ _ => false
  | .boUnpackF32Be _ _ _ _ => false
  | .boUnpackF32Le _ _ _ _ => false
  | .flvCheck _ _ _ => false
  | .raPush _ => true
  | .raSetpol _ => true
  | .raStatus => false
  | .raCount => false
  | .raPendlen => false
  | .raClear => true
  | .raEvpop => false

/-- How many chunk-stream bytes a command takes (R69, R77). -/
def chunkBytes : Instr → Nat
  | .crcFold _ _ => 0
  | .boPack16Be _ => 0
  | .boPack16Le _ => 0
  | .boPackF32Be _ => 0
  | .boPackF32Le _ => 0
  | .boUnpack16Be _ _ => 0
  | .boUnpack16Le _ _ => 0
  | .boUnpackF32Be _ _ _ _ => 0
  | .boUnpackF32Le _ _ _ _ => 0
  | .flvCheck _ _ _ => 0
  | .raPush n => n.toNat
  | .raSetpol _ => 0
  | .raStatus => 0
  | .raCount => 0
  | .raPendlen => 0
  | .raClear => 0
  | .raEvpop => 0

/-- Whether a command holds (R11, R160): it waits for the scan to finish. -/
def heldByBusy (i : Instr) (s : State) : Bool := waitsForIdle i && s.busy

/-- Whether a command has no step in this state: it holds, or its chunk has not arrived (log entry 5). -/
def holds (i : Instr) (s : State) : Bool :=
  heldByBusy i s || decide (s.stream.length < chunkBytes i)

end Sys2Proof.Machine
end

