-- ==== Sys2Proof/Machine/Schedule.lean ====
section
/-! DEFINITION. Fetching the command on the port and the interleaving of the two agents (00_scope.md R12; 60_exceptions.md
R205). -/

namespace Sys2Proof.Machine

/-- The move the command on the port makes: none pending, a command of the map, or a reserved one (R64). -/
def hostMove (s : State) : Move :=
  match s.cmds with
  | [] => .idle
  | c :: _ =>
    match decode s.cfg c with
    | .ok i => .command i
    | .error _ => .reserved

/-- Whether the host has a step: a command is on the port and is not held. -/
def hostReady (s : State) : Bool :=
  match hostMove s with
  | .command i => !holds i s
  | .reserved => true
  | .reset => false
  | .idle => false
  | .scan => false

/-- Whether the scanner has a step (R166): `SC = Scan(W, cur)` and not held (R171). -/
def scanReady (s : State) : Bool := s.busy && !scanHeld s

/-- Both agents have a step: their order is open (R205). -/
def contended (s : State) : Bool := hostReady s && scanReady s

/-- Who goes first when both have a step: `turn` where it says so, else a free choice (U12; log entry 3). -/
def hostFirst (s : State) : Bool :=
  match s.turn with
  | some .host => true
  | some .scanner => false
  | none => Config.freeHostFirst s.draws

/-- The next move. While `rst = 1` no command is taken and nothing is scanned (R230). An agent alone with a step takes
it; with no step anywhere the command on the port waits (R240), or nothing happens. -/
def nextMove (s : State) : Move :=
  if s.rst then .reset
  else if scanReady s && !(hostReady s && hostFirst s) then .scan
  else hostMove s

/-- The bookkeeping of a step's choice: `turn` is used up, and a free choice is counted. -/
def settle (s : State) : State :=
  { s with
    turn := none
    draws := if !s.rst && contended s && decide (s.turn = none) then s.draws + 1 else s.draws }

/-- The output `cmd_ready` (R68): 0 while `rst = 1` (R230) and while the command on the port holds (R160, R165). -/
def State.cmdReady (s : State) : Bool :=
  match hostMove s with
  | .command i => !s.rst && !heldByBusy i s
  | .reserved => !s.rst
  | .reset => !s.rst
  | .idle => !s.rst
  | .scan => !s.rst

/-- The output `chk_ready` (R68): the block takes chunk bytes for a command on the port that has some to take and does
not hold, and none while `rst = 1` (R230). How many a cycle is PUSH_RATE (R245; log entry 5). -/
def State.chkReady (s : State) : Bool :=
  match hostMove s with
  | .command i => !s.rst && !heldByBusy i s && decide (0 < chunkBytes i)
  | .reserved => false
  | .reset => false
  | .idle => false
  | .scan => false

end Sys2Proof.Machine
end

