-- ==== Sys2Proof/Machine/Dispatch.lean ====
section
/-! DEFINITION. One arm per command (30_encoding.md R78), each one call of its meaning. -/

namespace Sys2Proof.Machine

def exec (i : Instr) (s : State) : Host.Outcome State Fault Refusal :=
  match i with
  | .crcFold crcIn d => Sys2Proof.Machine.execCrcFold crcIn d s
  | .boPack16Be v => Sys2Proof.Machine.execBoPack16Be v s
  | .boPack16Le v => Sys2Proof.Machine.execBoPack16Le v s
  | .boPackF32Be v => Sys2Proof.Machine.execBoPackF32Be v s
  | .boPackF32Le v => Sys2Proof.Machine.execBoPackF32Le v s
  | .boUnpack16Be b0 b1 => Sys2Proof.Machine.execBoUnpack16Be b0 b1 s
  | .boUnpack16Le b0 b1 => Sys2Proof.Machine.execBoUnpack16Le b0 b1 s
  | .boUnpackF32Be b0 b1 b2 b3 => Sys2Proof.Machine.execBoUnpackF32Be b0 b1 b2 b3 s
  | .boUnpackF32Le b0 b1 b2 b3 => Sys2Proof.Machine.execBoUnpackF32Le b0 b1 b2 b3 s
  | .flvCheck id len cfg => Sys2Proof.Machine.execFlvCheck id len cfg s
  | .raPush n => Sys2Proof.Machine.execRaPush n s
  | .raSetpol skip => Sys2Proof.Machine.execRaSetpol skip s
  | .raStatus => Sys2Proof.Machine.execRaStatus s
  | .raCount => Sys2Proof.Machine.execRaCount s
  | .raPendlen => Sys2Proof.Machine.execRaPendlen s
  | .raClear => Sys2Proof.Machine.execRaClear s
  | .raEvpop => Sys2Proof.Machine.execRaEvpop s

end Sys2Proof.Machine
end

