-- ==== Sys2Proof/Machine/Step.lean ====
section
/-! DEFINITION. One step of the block: a reset cycle, one command, one scan step, or waiting. -/

namespace Sys2Proof.Machine

/-- One transition of one agent (20_memory.md R46, R49). With no command pending and no scan step to make, the state
stands still. -/
def step (s : State) : Host.Outcome State Fault Refusal :=
  match nextMove s with
  | .reset => .next (resetBlock (settle s))
  | .idle => .next (settle s)
  | .scan => .next (scanStep (settle s))
  | .command i => exec i (settle s)
  | .reserved => .next (takeReserved (settle s))

/-- `s` with the instruction of a table word on the port, ahead of the commands already pending, and the host to move
next, out of reset: the next step takes it unless its own rule holds it (log entry 14). -/
def State.withFetchWord (s : State) (nbits w : Nat) : State :=
  match Command.ofBytes (tableBytes nbits w) with
  | some (c, _) => { s with cmds := c :: s.cmds, rst := false, turn := some .host }
  | none => s

end Sys2Proof.Machine
end

