-- ==== Sys2Proof/Machine/Chunk.lean ====
section
/-! DEFINITION. The chunk-level summary of the scan (43_reassembler.md R173), written from R173's own text and not over
the scan step: a reference the machine is compared with, no part of a step. -/

namespace Sys2Proof.Machine

/-- What decoding one chunk leaves (R173): the new `PEND`, the new `FCOUNT`, the events appended in order. -/
structure ChunkResult where
  pend : List Byte
  fcount : Word
  events : List Event
deriving DecidableEq, Repr

/-- `Loop(W, cur, K, E)` (R173) on fuel; every turn that goes on moves the cursor by at least 1, so `|W| + 1` turns are
enough (R172). -/
def chunkLoop (p : Params) (skip : Bool) (w : List Byte) :
    Nat → Nat → Word → List Event → ChunkResult
  | 0, cur, k, e => ⟨slice w cur w.length, k, e⟩
  | fuel + 1, cur, k, e =>
    if w.length - cur < 2 ∨ w.length < cur + (u16be w cur).toNat then ⟨slice w cur w.length, k, e⟩
    else
      let len := u16be w cur
      let k' := if len ≠ 0 then k + 1 else k
      if len.toNat < 5 then chunkLoop p skip w fuel (cur + 1) k' e
      else
        let f := slice w cur (cur + len.toNat)
        let x := u16be f (len.toNat - 2)
        let err := crcTest p.crcSlice w cur len.toNat != x
        if err && skip then chunkLoop p skip w fuel (cur + 1) k' e
        else
          let v := flv p.ids (byteAt f 2) len (byteAt f 3)
          if v.ok = false then chunkLoop p skip w fuel (cur + 1) k' e
          else chunkLoop p skip w fuel (cur + len.toNat) k' (e ++ [⟨byteAt f 2, len, x, err, v.cat, f⟩])

/-- `Decode(P, S, K, chunk)` (R173). -/
def decodeChunk (p : Params) (pend : List Byte) (skip : Bool) (k : Word) (chunk : List Byte) : ChunkResult :=
  chunkLoop p skip (pend ++ chunk) ((pend ++ chunk).length + 1) 0 k []

/-- One turn of a host that only pops, interleaved with the scanner: `true` a scan step, `false` an `RA.EVPOP`'s pop
(R186). The second component collects what was popped, oldest first. -/
def scanOrPop (scanTurn : Bool) (x : State × List Event) : State × List Event :=
  if scanTurn then (scanStep x.1, x.2) else (dropEvent x.1, x.2 ++ x.1.evq.take 1)

/-- A whole interleaving of scan steps and pops. -/
def scanAndPop : List Bool → State × List Event → State × List Event
  | [], x => x
  | b :: bs, x => scanAndPop bs (scanOrPop b x)

/-- `n` scan steps with no host step between them; once `SC = Idle` nothing happens any more. -/
def scanSteps : Nat → State → State
  | 0, s => s
  | n + 1, s => scanSteps n (scanStep s)

end Sys2Proof.Machine
end

