-- ==== Sys2Proof/Machine/Frame.lean ====
section
/-! DEFINITION. Whole wire frames (30_encoding.md R72): what a valid frame is and the frame of an id and a payload. -/

namespace Sys2Proof.Machine

/-- `[lengthHi, lengthLo, frameId, ...payload, crc16Hi, crc16Lo]` (R72). The length field has 16 bits, so this is a
frame for payloads of at most 65530 bytes. -/
def buildFrame (id : Byte) (payload : List Byte) : List Byte :=
  let body := bytes16be (BitVec.ofNat 16 (payload.length + 5)) ++ id :: payload
  body ++ bytes16be (crc16 body)

/-- A valid frame: at least 5 bytes, its length field counts all of them, its trailer is the CRC16 of the bytes
before it (R72, R107). -/
def validFrame (f : List Byte) : Bool :=
  decide (minFrameLen ≤ f.length) && decide ((u16be f 0).toNat = f.length)
    && decide (frameTrailer f f.length = crc16 (f.take (f.length - 2)))

end Sys2Proof.Machine
end

