-- ==== Sys2Proof/Machine/Script.lean ====
section
/-! DEFINITION. The pseudo-commands (30_encoding.md R80) as expansions into commands, and the script form of a command
(R79). Notation of the host's: no step of the block reads this file. -/

namespace Sys2Proof.Machine

/-- `CRC.STEP crc=<c>, <b>` (R80). -/
def pseudoCrcStep (c : Half) (b : Byte) : Instr := .crcFold c [b]

/-- `BO.PACK16 v` without an order suffix is the big-endian form (R80). -/
def pseudoPack16 (v : Half) : Instr := .boPack16Be v

/-- `BO.PACKF32 v` (R80). -/
def pseudoPackF32 (v : Word) : Instr := .boPackF32Be v

/-- `BO.UNPACK16 [..]` (R80). -/
def pseudoUnpack16 (b0 b1 : Byte) : Instr := .boUnpack16Be b0 b1

/-- `BO.UNPACKF32 [..]` (R80). -/
def pseudoUnpackF32 (b0 b1 b2 b3 : Byte) : Instr := .boUnpackF32Be b0 b1 b2 b3

/-- The bytes of `CRC.OF`, `u` at a time with a shorter last group (R80); `fuel` bounds the number of groups. -/
def groupsOf (u : Nat) : Nat → List Byte → List (List Byte)
  | 0, _ => []
  | _ + 1, [] => []
  | fuel + 1, b :: bs => (b :: bs).take u :: groupsOf u fuel ((b :: bs).drop u)

/-- The `CRC.FOLD` commands of a `CRC.OF`, each taking the result of the one before it (R80). -/
def foldCommands : Half → List (List Byte) → List Instr
  | _, [] => []
  | c, g :: gs => .crcFold c g :: foldCommands (crcFrom c g) gs

/-- `CRC.OF [s0 .. s(m-1)]` (R80): no command at all for `m = 0`. -/
def pseudoCrcOf (p : Params) (bs : List Byte) : List Instr :=
  foldCommands crcInit (groupsOf p.crcUnroll bs.length bs)

/-- The value of a `CRC.OF`: the result of its last fold, `0x0000` if there is none (R80). -/
def valueOfFolds : Half → List Instr → Half
  | c, [] => c
  | _, .crcFold c g :: is => valueOfFolds (crcFrom c g) is
  | c, _ :: is => valueOfFolds c is

/-- One turn of `RA.WAIT` after its `RA.STATUS` answered `res` (R80): pop if EVQNE. -/
def waitPops (res : DWord) : List Instr := if res.getLsbD 2 then [.raEvpop] else []

/-- Whether `RA.WAIT` reads the status again (R80): while BUSY. -/
def waitAgain (res : DWord) : Bool := res.getLsbD 1

/-- Whether `RA.DRAIN` pops again (R80): until `res[0] = 0`. -/
def drainAgain (res : DWord) : Bool := res.getLsbD 0

/-- A hexadecimal digit. -/
def hexDigit (n : Nat) : Char := "0123456789ABCDEF".toList.getD n '?'

/-- The lowest `k` hexadecimal digits of `n`, highest first. -/
def hexDigits : Nat → Nat → List Char
  | 0, _ => []
  | k + 1, n => hexDigits k (n / 16) ++ [hexDigit (n % 16)]

/-- A number as `0x` and `k` digits (R79). -/
def hexNum (k n : Nat) : String := "0x" ++ String.ofList (hexDigits k n)

/-- A byte list in R79's brackets. -/
def hexBytes (bs : List Byte) : String :=
  "[" ++ String.intercalate " " (bs.map fun b => String.ofList (hexDigits 2 b.toNat)) ++ "]"

/-- One line of a command script (R79); `chunk` is what an `RA.PUSH` hands over. -/
def scriptLine (chunk : List Byte) : Instr → String
  | .crcFold c d => "CRC.FOLD crc=" ++ hexNum 4 c.toNat ++ ", " ++ hexBytes d
  | .boPack16Be v => "BO.PACK16.BE " ++ hexNum 4 v.toNat
  | .boPack16Le v => "BO.PACK16.LE " ++ hexNum 4 v.toNat
  | .boPackF32Be v => "BO.PACKF32.BE " ++ hexNum 8 v.toNat
  | .boPackF32Le v => "BO.PACKF32.LE " ++ hexNum 8 v.toNat
  | .boUnpack16Be b0 b1 => "BO.UNPACK16.BE " ++ hexBytes [b0, b1]
  | .boUnpack16Le b0 b1 => "BO.UNPACK16.LE " ++ hexBytes [b0, b1]
  | .boUnpackF32Be b0 b1 b2 b3 => "BO.UNPACKF32.BE " ++ hexBytes [b0, b1, b2, b3]
  | .boUnpackF32Le b0 b1 b2 b3 => "BO.UNPACKF32.LE " ++ hexBytes [b0, b1, b2, b3]
  | .flvCheck id len cfg =>
    "FLV.CHECK id=" ++ hexNum 2 id.toNat ++ ", len=" ++ hexNum 4 len.toNat ++ ", cfg=" ++ hexNum 2 cfg.toNat
  | .raPush _ => "RA.PUSH " ++ hexBytes chunk
  | .raSetpol skip => "RA.SETPOL skip=" ++ (if skip then "1" else "0")
  | .raStatus => "RA.STATUS"
  | .raCount => "RA.COUNT"
  | .raPendlen => "RA.PENDLEN"
  | .raClear => "RA.CLEAR"
  | .raEvpop => "RA.EVPOP"

end Sys2Proof.Machine
end

