-- ==== Sys2Proof/Safety.lean ====
section
/-! DEFINITION. What counts as a good run (60_exceptions.md R204), the invariant every step keeps, and the words the
claims are stated in. -/

namespace Sys2Proof.Machine

/-- The fault a state records (R204), ERR_ILLOP first. -/
def State.recordedFault (s : State) : Option Fault :=
  if s.errIllop then some .illegalCommand
  else if s.errOvf then some .bufferOverflow
  else none

/-- A good state records no fault (R204). -/
def State.good (s : State) : Bool := !s.errIllop && !s.errOvf

/-- The next state of an outcome; the state itself where there is none. -/
def afterStep (s : State) : State :=
  match step s with
  | .next t => t
  | .fault _ => s
  | .refused _ => s

/-- A good run of `n` steps: every state on the way is good. A later `RA.CLEAR` does not make it good again (R204:
"no later step clears the fault"); a run that follows the clear starts at the clear. -/
def goodRun : Nat → State → Bool
  | 0, s => s.good
  | n + 1, s => s.good && goodRun n (afterStep s)

/-- `PEND` stands where a scan stops (R164, R168): fewer than 2 bytes, or an incomplete candidate. -/
def stopped (w : List Byte) : Prop := w.length < 2 ∨ w.length < (u16be w 0).toNat

/-- An event agrees with the frame it carries, and the validator accepts it (R70, R72, R148). -/
structure EventWf (p : Params) (e : Event) : Prop where
  size : e.bytes.length = e.length.toNat
  minimum : minFrameLen ≤ e.bytes.length
  lengthField : u16be e.bytes 0 = e.length
  id : e.id = frameId e.bytes
  trailer : e.crcExpected = frameTrailer e.bytes e.bytes.length
  category : e.category = registry p.ids e.id
  accepted : (flv p.ids e.id e.length (frameCfg e.bytes)).ok = true

/-- `cur <= |W|` (R20). -/
def cursorInside : ScanState → Prop
  | .idle => True
  | .scan w cur => cur ≤ w.length

/-- The invariant of the block: the bounds of R20's table, R22's "`PEND` is non-empty only while `SC = Idle`",
R164's place of `PEND`, R28's presence of `BO_REG`, and that every queued event is a frame the validator accepts. -/
structure State.Inv (s : State) : Prop where
  legal : s.cfg.legal = true
  pendCap : s.pend.length ≤ s.cfg.pendCap
  pendShort : s.pend.length ≤ 65534
  pendIdle : s.busy = true → s.pend = []
  pendStopped : stopped s.pend
  cursor : cursorInside s.sc
  evqDepth : s.evq.length ≤ s.cfg.evqDepth
  events : ∀ e ∈ s.evq, EventWf s.cfg e
  boReg : s.cfg.boPipe = false → s.boReg = BoReg.zero

end Sys2Proof.Machine
end

