-- ==== Sys2Proof/Certificates/Slice0/Obligations.lean ====
section
/-! DEFINITION. The statements for the provers, each with the rules of spec/ it formalises. -/

open Sys2Proof Sys2Proof.Machine

namespace Sys2Proof.Machine

/-- The command on the port leaves it and `r` is its reply; nothing else changes. -/
def replied (s : State) (r : Reply) : State := { s with cmds := s.cmds.tail, resp := some r }

/-- A BO command with the network's output `r` (R47, R63, R121, R243): its result is `r.res`, `BO_REG` takes `r` in a
build that has it, and the cycle the command is taken in shows the previous `BO_REG` there. -/
def boReplied (s : State) (r : BoReg) : State :=
  { s with
    cmds := s.cmds.tail
    boReg := if s.cfg.boPipe then r else s.boReg
    resp := some ⟨r.res, [], some (if s.cfg.boPipe then s.boReg.res else r.res)⟩ }

/-- Format B's result word of a pack (R63): byte `j` at `res[8j+7:8j]`, the count at `res[34:32]`, the rest 0. -/
def packResult (res : DWord) (b0 b1 b2 b3 : Byte) (n : BitVec 3) : Prop :=
  res.extractLsb' 0 8 = b0 ∧ res.extractLsb' 8 8 = b1 ∧ res.extractLsb' 16 8 = b2 ∧ res.extractLsb' 24 8 = b3
    ∧ res.extractLsb' 32 3 = n ∧ res.extractLsb' 35 29 = 0

/-- Format B's result word of an unpack: the value, zero-extended. -/
def unpackResult (res : DWord) (v : Word) : Prop := res.extractLsb' 0 32 = v ∧ res.extractLsb' 32 32 = 0

/-- The operand bits of `c` that its op's format uses are those of `c'` (R62, R63, R65, R66). -/
def usedBitsAgree (c c' : Command) : Prop :=
  (c.op.toNat < 0x08 →
    c.arg.extractLsb' 0 16 = c'.arg.extractLsb' 0 16 ∧ ∀ j, j ≤ (c.op.extractLsb' 0 3).toNat → lane c.din j = lane c'.din j)
  ∧ (c.op = 0x40#8 ∨ c.op = 0x41#8 → c.arg.extractLsb' 0 16 = c'.arg.extractLsb' 0 16)
  ∧ (c.op = 0x42#8 ∨ c.op = 0x43#8 ∨ c.op = 0x80#8 ∨ c.op = 0xC0#8 → c.arg = c'.arg)
  ∧ (c.op = 0x44#8 ∨ c.op = 0x45#8 → lane c.din 0 = lane c'.din 0 ∧ lane c.din 1 = lane c'.din 1)
  ∧ (c.op = 0x46#8 ∨ c.op = 0x47#8 → ∀ j, j < 4 → lane c.din j = lane c'.din j)
  ∧ (c.op = 0xC1#8 → c.arg.getLsbD 0 = c'.arg.getLsbD 0)

/-- The op values R64 and R78 reserve. -/
def reservedOp (p : Params) (op : Nat) : Prop :=
  (0x08 ≤ op ∧ op < 0x40) ∨ (0x48 ≤ op ∧ op < 0x80) ∨ (0x81 ≤ op ∧ op < 0xC0) ∨ 0xC7 ≤ op
    ∨ (op < 0x08 ∧ p.crcUnroll < op + 1)

/-- The eight BO commands. -/
def isBo : Instr → Bool
  | .crcFold _ _ => false
  | .boPack16Be _ => true
  | .boPack16Le _ => true
  | .boPackF32Be _ => true
  | .boPackF32Le _ => true
  | .boUnpack16Be _ _ => true
  | .boUnpack16Le _ _ => true
  | .boUnpackF32Be _ _ _ _ => true
  | .boUnpackF32Le _ _ _ _ => true
  | .flvCheck _ _ _ => false
  | .raPush _ => false
  | .raSetpol _ => false
  | .raStatus => false
  | .raCount => false
  | .raPendlen => false
  | .raClear => false
  | .raEvpop => false

/-- The commands R47 lists as reads without a side effect (BO commands but for `BO_REG`). -/
def isRead (i : Instr) : Prop :=
  isBo i = true ∨ (∃ c d, i = .crcFold c d) ∨ (∃ id len cfg, i = .flvCheck id len cfg)
    ∨ i = .raStatus ∨ i = .raCount ∨ i = .raPendlen

/-- The register of a CRC with the one bit set where the equation of R106 says so. -/
def crcEquation (c : Half) (b : Byte) (o : Half) : Prop :=
  let t := fun k => (c.getLsbD (8 + k)).xor (b.getLsbD k)
  o.getLsbD 0 = (t 0).xor (t 4) ∧ o.getLsbD 1 = (t 1).xor (t 5) ∧ o.getLsbD 2 = (t 2).xor (t 6)
  ∧ o.getLsbD 3 = (t 3).xor (t 7) ∧ o.getLsbD 4 = t 4 ∧ o.getLsbD 5 = ((t 0).xor (t 4)).xor (t 5)
  ∧ o.getLsbD 6 = ((t 1).xor (t 5)).xor (t 6) ∧ o.getLsbD 7 = ((t 2).xor (t 6)).xor (t 7)
  ∧ o.getLsbD 8 = ((c.getLsbD 0).xor (t 3)).xor (t 7) ∧ o.getLsbD 9 = (c.getLsbD 1).xor (t 4)
  ∧ o.getLsbD 10 = (c.getLsbD 2).xor (t 5) ∧ o.getLsbD 11 = (c.getLsbD 3).xor (t 6)
  ∧ o.getLsbD 12 = (((c.getLsbD 4).xor (t 0)).xor (t 4)).xor (t 7)
  ∧ o.getLsbD 13 = ((c.getLsbD 5).xor (t 1)).xor (t 5) ∧ o.getLsbD 14 = ((c.getLsbD 6).xor (t 2)).xor (t 6)
  ∧ o.getLsbD 15 = ((c.getLsbD 7).xor (t 3)).xor (t 7)

/-- The six exact lengths of R143, written out. -/
def hasItsExactLength (cat : Category) (len : Nat) : Prop :=
  (cat = .moduleInfoResp ∧ len = 13) ∨ (cat = .serialNumberResp ∧ len = 9) ∨ (cat = .setConfigDone ∧ len = 5)
    ∨ (cat = .setAcqParamsDone ∧ len = 5) ∨ (cat = .getAcqParamsResp ∧ len = 15)
    ∨ (cat = .getFunctionalModeResp ∧ len = 6)

/-- The categories of a fixed length (R143). -/
def isFixed (cat : Category) : Prop := cat ≠ .notRegistered ∧ cat ≠ .dataReport ∧ cat ≠ .configResponse

/-- R163's condition: `CRC_SLICE = BUFFER_END` and `|PEND| + N > WORK_CAP`. -/
def overflowsWork (s : State) (n : Nat) : Prop :=
  s.cfg.crcSlice = .bufferEnd ∧ ∃ cap, s.cfg.workCap = some cap ∧ cap < s.pend.length + n

/-- R168's count: one more modulo 2^32. -/
def countedOnce (s : State) : Word := s.fcount + 1

/-- R170's `Finish(W, cur)`, written out. -/
def finished (s : State) (w : List Byte) (cur : Nat) : State :=
  if s.cfg.pendCap < (slice w cur w.length).length then { s with errOvf := true, pend := [], sc := .idle }
  else { s with pend := slice w cur w.length, sc := .idle }

/-- R168's `ScanStep`, written out line by line for a scan at `w`, `cur`. -/
def scanStepText (s : State) (w : List Byte) (cur : Nat) : State :=
  if w.length - cur < 2 then finished s w cur
  else
    let len := u16be w cur
    if cur + len.toNat > w.length then finished s w cur
    else if len.toNat < 5 then
      { s with fcount := if len ≠ 0 then countedOnce s else s.fcount, sc := .scan w (cur + 1) }
    else
      let f := slice w cur (cur + len.toNat)
      let expected := u16be f (len.toNat - 2)
      let err := crcTest s.cfg.crcSlice w cur len.toNat != expected
      if err = true ∧ s.skip = true then { s with fcount := countedOnce s, sc := .scan w (cur + 1) }
      else
        let v := flv s.cfg.ids (byteAt f 2) len (byteAt f 3)
        if v.ok = false then { s with fcount := countedOnce s, sc := .scan w (cur + 1) }
        else if s.evq.length = s.cfg.evqDepth then s
        else
          { s with
            fcount := countedOnce s
            evq := s.evq ++ [⟨byteAt f 2, len, expected, err, v.cat, f⟩]
            sc := .scan w (cur + len.toNat) }

/-- The host moves next, with the command `c` on the port: out of reset, and the scanner has no step or comes second,
the command being free to go. -/
def hostMoves (s : State) (c : Command) : Prop :=
  s.rst = false ∧ s.cmds.head? = some c ∧ (scanReady s = false ∨ (hostReady s = true ∧ hostFirst s = true))

end Sys2Proof.Machine

/-! ### Encodings -/

/-- Formats C, B, V and R (30_encoding.md §2, §4): the encoder's transaction of every well-formed command decodes to
that command, in every build. -/
def Obligations.DecodeEncodeRoundTrip : Prop :=
  ∀ (p : Params) (i : Instr), WellFormed p i = true → decode p (encode i) = .ok i

/-- What the decoder names is well-formed, and its canonical transaction has the same op byte. -/
def Obligations.DecodedCommandsAreWellFormed : Prop :=
  ∀ (p : Params) (c : Command) (i : Instr),
    decode p c = .ok i → WellFormed p i = true ∧ (encode i).op = c.op

/-- R67: "Bits a format marks "ignored" have no effect, whatever their value" (U15). -/
def Obligations.IgnoredOperandBitsHaveNoEffect : Prop :=
  ∀ (p : Params) (c c' : Command), c.op = c'.op → usedBitsAgree c c' → decode p c = decode p c'

/-- R64, R78: a code is reserved exactly where the map names no command. -/
def Obligations.ReservedCodesAreTheMapsGaps : Prop :=
  ∀ (p : Params) (c : Command), (∃ e, decode p c = .error e) ↔ reservedOp p c.op.toNat

/-- R78: the op values of the map and the commands they name, each with its format's operands. -/
def Obligations.OpcodeMapNamesItsCommands : Prop :=
  ∀ (p : Params) (c : Command),
    (c.op.toNat < 0x08 → c.op.toNat + 1 ≤ p.crcUnroll →
      decode p c = .ok (.crcFold (c.arg.extractLsb' 0 16) (lanes c.din (c.op.toNat + 1))))
    ∧ (c.op = 0x40#8 → decode p c = .ok (.boPack16Be (c.arg.extractLsb' 0 16)))
    ∧ (c.op = 0x41#8 → decode p c = .ok (.boPack16Le (c.arg.extractLsb' 0 16)))
    ∧ (c.op = 0x42#8 → decode p c = .ok (.boPackF32Be c.arg))
    ∧ (c.op = 0x43#8 → decode p c = .ok (.boPackF32Le c.arg))
    ∧ (c.op = 0x44#8 → decode p c = .ok (.boUnpack16Be (lane c.din 0) (lane c.din 1)))
    ∧ (c.op = 0x45#8 → decode p c = .ok (.boUnpack16Le (lane c.din 0) (lane c.din 1)))
    ∧ (c.op = 0x46#8 → decode p c
        = .ok (.boUnpackF32Be (lane c.din 0) (lane c.din 1) (lane c.din 2) (lane c.din 3)))
    ∧ (c.op = 0x47#8 → decode p c
        = .ok (.boUnpackF32Le (lane c.din 0) (lane c.din 1) (lane c.din 2) (lane c.din 3)))
    ∧ (c.op = 0x80#8 → decode p c
        = .ok (.flvCheck (c.arg.extractLsb' 0 8) (c.arg.extractLsb' 8 16) (c.arg.extractLsb' 24 8)))
    ∧ (c.op = 0xC0#8 → decode p c = .ok (.raPush c.arg))
    ∧ (c.op = 0xC1#8 → decode p c = .ok (.raSetpol (c.arg.getLsbD 0)))
    ∧ (c.op = 0xC2#8 → decode p c = .ok .raStatus)
    ∧ (c.op = 0xC3#8 → decode p c = .ok .raCount)
    ∧ (c.op = 0xC4#8 → decode p c = .ok .raPendlen)
    ∧ (c.op = 0xC5#8 → decode p c = .ok .raClear)
    ∧ (c.op = 0xC6#8 → decode p c = .ok .raEvpop)
    ∧ (reservedOp p c.op.toNat → ∃ e, decode p c = .error e)

/-- Transactions of 95_test_vectors.md, one per unit, decode to the commands they stand for: CV20, BV1, FV1, E4, P5. -/
def Obligations.TestVectorWordsDecode : Prop :=
  decode Params.default ⟨0x02#8, 0#32, 0x0000000000010500#64⟩ = .ok (.crcFold 0#16 [0x00#8, 0x05#8, 0x01#8])
  ∧ decode Params.default ⟨0x40#8, 0x00001234#32, 0#64⟩ = .ok (.boPack16Be 0x1234#16)
  ∧ decode Params.default ⟨0x80#8, 0x54000D02#32, 0#64⟩ = .ok (.flvCheck 0x02#8 13#16 0x54#8)
  ∧ decode Params.default ⟨0xC0#8, 0x0000000D#32, 0#64⟩ = .ok (.raPush 13#32)
  ∧ decode Params.default ⟨0x08#8, 0#32, 0#64⟩ = .error (.reservedOp 0x08#8)

/-! ### Steps -/

/-- A STEP RUNS THE DECODED COMMAND (20_memory.md R49): with `c` on the port and the host to move, the step is the
meaning of the command `c` decodes to, after the step's own bookkeeping `settle` (log entry 3), which touches only the
model's own fields `turn` and `draws`. -/
def Obligations.StepRunsTheDecodedCommand : Prop :=
  ∀ (s : State) (c : Command) (i : Instr), hostMoves s c → decode s.cfg c = .ok i →
    step s = exec i (settle s) ∧ ∃ n, settle s = { s with turn := none, draws := n }

/-- R64: a reserved command "changes no state except `ERR_ILLOP <- 1`, and returns `res = 0` with no `dout`"; two
clauses are the model's choice: the step's bookkeeping `settle` of its own fields `turn` and `draws` (log entry 3), and
that the fault R64 and R204 speak of is recorded in the state after it (log entry 6). -/
def Obligations.StepTakesAReservedCommand : Prop :=
  ∀ (s : State) (c : Command), hostMoves s c → reservedOp s.cfg c.op.toNat →
    ∃ t, step s = .next t
      ∧ t = { settle s with cmds := s.cmds.tail, errIllop := true, resp := some ⟨0, [], none⟩ }
      ∧ t.recordedFault = some .illegalCommand

/-- R166: the scanner has a step whenever `SC = Scan(W, cur)`, apart from the hold of R171; where the host has a step
too the order is left open (R205; log entry 3). -/
def Obligations.StepMovesTheScanner : Prop :=
  ∀ (s : State), s.rst = false → scanReady s = true → (hostReady s = false ∨ hostFirst s = false) →
    step s = .next (scanStep (settle s))

/-- R230: with `rst = 1` every element takes its reset value, whatever the state, and no command is taken. -/
def Obligations.ResetCycleAppliesTheTable : Prop :=
  ∀ (s : State), s.rst = true →
    s.cmdReady = false ∧ s.chkReady = false ∧
    ∃ t, step s = .next t ∧ t.pend = [] ∧ t.sc = .idle ∧ t.fcount = 0 ∧ t.skip = true ∧ t.evq = []
      ∧ t.errIllop = false ∧ t.errOvf = false ∧ t.boReg = ⟨0, 0, 0, 0, 0, 0⟩
      ∧ t.cmds = s.cmds ∧ t.stream = s.stream ∧ t.cfg = s.cfg

/-- R200: the block never traps, halts or stops: every step from every state answers a next state. -/
def Obligations.EveryStepAnswersANextState : Prop :=
  ∀ (s : State), ∃ t, step s = .next t

/-- R33 and the reset column of R29, for every legal build. -/
def Obligations.ResetStateHoldsTheResetValues : Prop :=
  ∀ (p : Params), p.legal = true →
    (State.resetWith p).pend = [] ∧ (State.resetWith p).sc = .idle ∧ (State.resetWith p).fcount = 0
    ∧ (State.resetWith p).skip = true ∧ (State.resetWith p).evq = [] ∧ (State.resetWith p).errIllop = false
    ∧ (State.resetWith p).errOvf = false ∧ (State.resetWith p).boReg = ⟨0, 0, 0, 0, 0, 0⟩
    ∧ (State.resetWith p).status = 0x01#8

/-! ### CRC16 -/

/-- R103: `CRC.FOLD` and the direct port. Which bits of the port's `crc_bytes` hold its bytes is the model's choice (log
entry 8). -/
def Obligations.CrcFoldFoldsItsBytes : Prop :=
  (∀ (p : Params) (c : Command), c.op.toNat < 0x08 → c.op.toNat + 1 ≤ p.crcUnroll →
    decode p c = .ok (.crcFold (c.arg.extractLsb' 0 16) (lanes c.din (c.op.toNat + 1))))
  ∧ (∀ (s : State) (crcIn : Half) (d : List Byte), 1 ≤ d.length → d.length ≤ 8 → d.length ≤ s.cfg.crcUnroll →
      exec (.crcFold crcIn d) s
        = .next (replied s ⟨(crcFrom crcIn d).setWidth 64, [], some ((crcFrom crcIn d).setWidth 64)⟩))
  ∧ (∀ (p : Params) (c : Command), c.op.toNat < 0x08 → p.crcUnroll < c.op.toNat + 1 → ∃ e, decode p c = .error e)
  ∧ (∀ (p : Params) (k : Nat) (q : CrcPins),
      (q.n = 0 → crcPortOut p k q = q.seed)
      ∧ (1 ≤ q.n.toNat → q.n.toNat ≤ p.crcUnroll → crcPortOut p k q = crcFrom q.seed (lanes q.bytes q.n.toNat)))

/-- The three worked examples R101 rests on (95_test_vectors.md E1 to E3), and the check value CV8. -/
def Obligations.CrcWorkedExamples : Prop :=
  crc16 [0x00, 0x0D, 0x02, 0x54, 0x52, 0x41, 0x58, 0x50, 0x37, 0x33, 0x34] = 0x2B91#16
  ∧ crc16 [0x00, 0x05, 0x01] = 0xEFD4#16
  ∧ crc16 [0x00, 0x0A, 0x06, 0x01, 0x41, 0x48, 0x00, 0x00] = 0x78DA#16
  ∧ crc16 [0x31, 0x32, 0x33, 0x34, 0x35, 0x36, 0x37, 0x38, 0x39] = 0x31C3#16

/-- The two equivalent forms of one step (40_crc16.md §3, derived there from R102): the byte-wise closed form and the
sixteen exclusive-or equations. -/
def Obligations.CrcStepHasItsEquivalentForms : Prop :=
  ∀ (c : Half) (b : Byte),
    let x := c.extractLsb' 8 8 ^^^ b
    let y := x ^^^ (x >>> 4)
    crcStep c b = (c <<< 8) ^^^ (y.setWidth 16 <<< 12) ^^^ (y.setWidth 16 <<< 5) ^^^ y.setWidth 16
    ∧ crcEquation c b (crcStep c b)

/-- Laws 1 and 2 of 40_crc16.md §3 (derived there from R102): one step is linear, and a zero step fixes zero. -/
def Obligations.CrcStepIsLinear : Prop :=
  (∀ (c₁ c₂ : Half) (b₁ b₂ : Byte), crcStep (c₁ ^^^ c₂) (b₁ ^^^ b₂) = crcStep c₁ b₁ ^^^ crcStep c₂ b₂)
  ∧ crcStep 0 0 = 0

/-- Laws 3 and 4 of 40_crc16.md §3 (derived there from R102, R104): a message followed by its CRC has residue zero, so a
valid frame in front of other bytes does not change their CRC. -/
def Obligations.CrcResidueOfAFrameIsZero : Prop :=
  (∀ m : List Byte, crc16 (m ++ bytes16be (crc16 m)) = 0)
  ∧ (∀ f t : List Byte, validFrame f = true → crc16 (f ++ t) = crc16 t)

/-- R104: the CRC of a sequence is the fold of its parts, wherever it is split; and `CRC.OF` of R80, which takes
CRC_UNROLL bytes at a time, has that value in every legal build. -/
def Obligations.CrcOfASequenceSplitsAnywhere : Prop :=
  (∀ (c : Half) (a b : List Byte), crcFrom c (a ++ b) = crcFrom (crcFrom c a) b)
  ∧ (∀ (p : Params) (m : List Byte), p.legal = true →
      valueOfFolds crcInit (pseudoCrcOf p m) = crc16 m ∧ ∀ i ∈ pseudoCrcOf p m, WellFormed p i = true)

/-! ### Byte order -/

/-- R122, R123: `BO.PACK16.BE` and `BO.PACK16.LE`. -/
def Obligations.Pack16GivesTwoBytes : Prop :=
  ∀ (s : State) (v : Half) (c : Command),
    (c.op = 0x40#8 → decode s.cfg c = .ok (.boPack16Be (c.arg.extractLsb' 0 16)))
    ∧ (c.op = 0x41#8 → decode s.cfg c = .ok (.boPack16Le (c.arg.extractLsb' 0 16)))
    ∧ (∃ r, exec (.boPack16Be v) s = .next (boReplied s r)
        ∧ packResult r.res (v.extractLsb' 8 8) (v.extractLsb' 0 8) 0 0 2)
    ∧ (∃ r, exec (.boPack16Le v) s = .next (boReplied s r)
        ∧ packResult r.res (v.extractLsb' 0 8) (v.extractLsb' 8 8) 0 0 2 ∧ r.res.extractLsb' 0 16 = v)

/-- R124, R125: `BO.PACKF32.BE` and `BO.PACKF32.LE`. -/
def Obligations.PackF32GivesFourBytes : Prop :=
  ∀ (s : State) (v : Word) (c : Command),
    (c.op = 0x42#8 → decode s.cfg c = .ok (.boPackF32Be c.arg))
    ∧ (c.op = 0x43#8 → decode s.cfg c = .ok (.boPackF32Le c.arg))
    ∧ (∃ r, exec (.boPackF32Be v) s = .next (boReplied s r)
        ∧ packResult r.res (v.extractLsb' 24 8) (v.extractLsb' 16 8) (v.extractLsb' 8 8) (v.extractLsb' 0 8) 4)
    ∧ (∃ r, exec (.boPackF32Le v) s = .next (boReplied s r)
        ∧ packResult r.res (v.extractLsb' 0 8) (v.extractLsb' 8 8) (v.extractLsb' 16 8) (v.extractLsb' 24 8) 4
        ∧ r.res.extractLsb' 0 32 = v)

/-- R126, R127: `BO.UNPACK16.BE` and `BO.UNPACK16.LE`. -/
def Obligations.Unpack16GivesTheValue : Prop :=
  ∀ (s : State) (b0 b1 : Byte) (c : Command),
    (c.op = 0x44#8 → decode s.cfg c = .ok (.boUnpack16Be (lane c.din 0) (lane c.din 1)))
    ∧ (c.op = 0x45#8 → decode s.cfg c = .ok (.boUnpack16Le (lane c.din 0) (lane c.din 1)))
    ∧ (∃ r, exec (.boUnpack16Be b0 b1) s = .next (boReplied s r) ∧ unpackResult r.res (0#16 ++ (b0 ++ b1)))
    ∧ (∃ r, exec (.boUnpack16Le b0 b1) s = .next (boReplied s r) ∧ unpackResult r.res (0#16 ++ (b1 ++ b0)))

/-- R128, R129: `BO.UNPACKF32.BE` and `BO.UNPACKF32.LE`. -/
def Obligations.UnpackF32GivesThePattern : Prop :=
  ∀ (s : State) (b0 b1 b2 b3 : Byte) (c : Command),
    (c.op = 0x46#8 → decode s.cfg c
      = .ok (.boUnpackF32Be (lane c.din 0) (lane c.din 1) (lane c.din 2) (lane c.din 3)))
    ∧ (c.op = 0x47#8 → decode s.cfg c
      = .ok (.boUnpackF32Le (lane c.din 0) (lane c.din 1) (lane c.din 2) (lane c.din 3)))
    ∧ (∃ r, exec (.boUnpackF32Be b0 b1 b2 b3) s = .next (boReplied s r)
        ∧ unpackResult r.res (b0 ++ b1 ++ b2 ++ b3))
    ∧ (∃ r, exec (.boUnpackF32Le b0 b1 b2 b3) s = .next (boReplied s r)
        ∧ unpackResult r.res (b3 ++ b2 ++ b1 ++ b0))

/-- The round trips of 41_byte_order.md §4 (derived there from R122 to R129), through the machine: the bytes a pack
answers with, unpacked in the same order, give the value back, and the other way round. -/
def Obligations.PackAndUnpackAreInverse : Prop :=
  ∀ (s t u : State) (r q : Reply),
    (∀ v : Half, exec (.boPack16Be v) s = .next t → t.resp = some r →
      exec (.boUnpack16Be (lane r.res 0) (lane r.res 1)) t = .next u → u.resp = some q → q.res = v.setWidth 64)
    ∧ (∀ v : Half, exec (.boPack16Le v) s = .next t → t.resp = some r →
      exec (.boUnpack16Le (lane r.res 0) (lane r.res 1)) t = .next u → u.resp = some q → q.res = v.setWidth 64)
    ∧ (∀ v : Word, exec (.boPackF32Be v) s = .next t → t.resp = some r →
      exec (.boUnpackF32Be (lane r.res 0) (lane r.res 1) (lane r.res 2) (lane r.res 3)) t = .next u →
      u.resp = some q → q.res = v.setWidth 64)
    ∧ (∀ v : Word, exec (.boPackF32Le v) s = .next t → t.resp = some r →
      exec (.boUnpackF32Le (lane r.res 0) (lane r.res 1) (lane r.res 2) (lane r.res 3)) t = .next u →
      u.resp = some q → q.res = v.setWidth 64)
    ∧ (∀ b0 b1 : Byte, exec (.boUnpack16Be b0 b1) s = .next t → t.resp = some r →
      exec (.boPack16Be (r.res.extractLsb' 0 16)) t = .next u → u.resp = some q →
      lane q.res 0 = b0 ∧ lane q.res 1 = b1)
    ∧ (∀ b0 b1 : Byte, exec (.boUnpack16Le b0 b1) s = .next t → t.resp = some r →
      exec (.boPack16Le (r.res.extractLsb' 0 16)) t = .next u → u.resp = some q →
      lane q.res 0 = b0 ∧ lane q.res 1 = b1)
    ∧ (∀ b0 b1 b2 b3 : Byte, exec (.boUnpackF32Be b0 b1 b2 b3) s = .next t → t.resp = some r →
      exec (.boPackF32Be (r.res.extractLsb' 0 32)) t = .next u → u.resp = some q →
      lane q.res 0 = b0 ∧ lane q.res 1 = b1 ∧ lane q.res 2 = b2 ∧ lane q.res 3 = b3)
    ∧ (∀ b0 b1 b2 b3 : Byte, exec (.boUnpackF32Le b0 b1 b2 b3) s = .next t → t.resp = some r →
      exec (.boPackF32Le (r.res.extractLsb' 0 32)) t = .next u → u.resp = some q →
      lane q.res 0 = b0 ∧ lane q.res 1 = b1 ∧ lane q.res 2 = b2 ∧ lane q.res 3 = b3)

/-- R243: with `BO_PIPE = 1` a host that samples `res_data` in the cycle it issues a BO command reads the previous BO
result, or zero after reset; with `BO_PIPE = 0` it reads the command's own result. -/
def Obligations.EarlySampleShowsThePreviousBoResult : Prop :=
  ∀ (s : State) (i : Instr), isBo i = true →
    (s.cfg.boPipe = true → ∀ (j : Instr), isBo j = true →
      ∃ t u r q, exec j s = .next t ∧ t.resp = some r ∧ exec i t = .next u ∧ u.resp = some q ∧ q.early = some r.res)
    ∧ (s.cfg.boPipe = true → s.boReg = BoReg.zero →
      ∃ u q, exec i s = .next u ∧ u.resp = some q ∧ q.early = some 0)
    ∧ (s.cfg.boPipe = false → ∃ u q, exec i s = .next u ∧ u.resp = some q ∧ q.early = some q.res)

/-! ### Validator -/

/-- R148's command: `FLV.CHECK` writes no state and answers `ok`, `cat` and `reason` at the bits R65 gives. -/
def Obligations.FlvCheckAnswersTheVerdict : Prop :=
  ∀ (s : State) (id : Byte) (len : Half) (cfg : Byte),
    ∃ res : DWord, exec (.flvCheck id len cfg) s = .next (replied s ⟨res, [], some res⟩)
      ∧ res.getLsbD 0 = (flv s.cfg.ids id len cfg).ok
      ∧ res.extractLsb' 1 4 = categoryCode (registry s.cfg.ids id)
      ∧ res.extractLsb' 5 3 = reasonCode (flv s.cfg.ids id len cfg).reason
      ∧ res.extractLsb' 8 56 = 0
      ∧ (res.extractLsb' 5 3 = 0 ↔ res.getLsbD 0 = true)

/-- R143 to R146 through R148's function: what is accepted, and which reason rejects, in R148's order. -/
def Obligations.FlvAcceptsByCategoryAndLength : Prop :=
  ∀ (r : RegistryIds) (id : Byte) (len : Half) (cfg : Byte),
    let cat := registry r id
    let v := flv r id len cfg
    v.cat = cat
    ∧ (v.ok = true ↔
        hasItsExactLength cat len.toNat
        ∨ (cat = .dataReport ∧ 6 ≤ len.toNat)
        ∨ (cat = .configResponse ∧ 10 ≤ len.toNat ∧ cfg = 0x01#8))
    ∧ (v.reason = .ok ↔ v.ok = true)
    ∧ (v.reason = .badLength ↔ len.toNat < 5)
    ∧ (v.reason = .unknownId ↔ 5 ≤ len.toNat ∧ cat = .notRegistered)
    ∧ (v.reason = .lengthMismatch ↔ 5 ≤ len.toNat ∧ isFixed cat ∧ ¬ hasItsExactLength cat len.toNat)
    ∧ (v.reason = .tooShort ↔
        (cat = .dataReport ∧ len.toNat = 5) ∨ (cat = .configResponse ∧ 5 ≤ len.toNat ∧ len.toNat < 7))
    ∧ (v.reason = .unknownConfigId ↔ cat = .configResponse ∧ 7 ≤ len.toNat ∧ cfg ≠ 0x01#8)
    ∧ (v.reason = .configTooShort ↔ cat = .configResponse ∧ 7 ≤ len.toNat ∧ len.toNat < 10 ∧ cfg = 0x01#8)

/-- R140 to R142: in a legal registry each of the eight ids has its own category, `0x02` is MODULE_INFO_RESP, `0x01`
and `0x06` are not registered, and every id not listed maps to NONE. -/
def Obligations.RegistryMapsTheListedIds : Prop :=
  ∀ (r : RegistryIds), r.legal = true →
    registry r r.moduleInfoResp = .moduleInfoResp ∧ registry r r.serialNumberResp = .serialNumberResp
    ∧ registry r r.setConfigDone = .setConfigDone ∧ registry r r.setAcqParamsDone = .setAcqParamsDone
    ∧ registry r r.getAcqParamsResp = .getAcqParamsResp
    ∧ registry r r.getFunctionalModeResp = .getFunctionalModeResp
    ∧ registry r r.dataReport = .dataReport ∧ registry r r.configResponse = .configResponse
    ∧ registry r 0x02#8 = .moduleInfoResp ∧ registry r 0x01#8 = .notRegistered ∧ registry r 0x06#8 = .notRegistered
    ∧ ∀ id, id ∉ r.toList → registry r id = .notRegistered

/-! ### Reassembler commands -/

/-- R162: `RA.PUSH` holds while `SC != Idle`; else, its bytes being on the stream (R69), it starts the scan of `PEND` and
the chunk at cursor 0, or overflows. R11 says a held command has no step; that the model steps in place is its choice
(log entry 4). The form left out is an idle `RA.PUSH` with fewer than N bytes on the stream (log entry 5). -/
def Obligations.RaPushStartsTheScan : Prop :=
  ∀ (s : State) (n : Word),
    (s.busy = true → exec (.raPush n) s = .next s)
    ∧ (s.busy = false → n.toNat ≤ s.stream.length → ¬ overflowsWork s n.toNat →
        exec (.raPush n) s = .next { s with
          cmds := s.cmds.tail, stream := s.stream.drop n.toNat, pend := []
          sc := .scan (s.pend ++ s.stream.take n.toNat) 0, resp := some ⟨0, [], none⟩ })
    ∧ (s.busy = false → n.toNat ≤ s.stream.length → overflowsWork s n.toNat →
        ∃ t, exec (.raPush n) s = .next t ∧ t.pend = [] ∧ t.sc = .idle ∧ t.errOvf = true
          ∧ t.resp = some ⟨0, [], none⟩)

/-- R163: working-buffer overflow, possible only in BUFFER_END mode, discards the pending bytes and the chunk and scans
nothing. -/
def Obligations.RaPushOverflowsTheWorkingBuffer : Prop :=
  ∀ (s : State) (n : Word), s.busy = false → n.toNat ≤ s.stream.length →
    (overflowsWork s n.toNat →
      exec (.raPush n) s = .next { s with
        cmds := s.cmds.tail, stream := s.stream.drop n.toNat, pend := [], sc := .idle, errOvf := true
        resp := some ⟨0, [], none⟩ })
    ∧ (s.cfg.crcSlice = .perFrame → ∃ t, exec (.raPush n) s = .next t ∧ t.errOvf = s.errOvf ∧ t.busy = true)

/-- `RA.PUSH` (R165), `RA.SETPOL` (R181) and `RA.CLEAR` (R184) hold while `BUSY = 1` (R242): the chunk is neither lost nor
merged, `cmd_ready` is 0 for the command on the port (R160), and the chunk's command is ready as soon as the scan has
finished. R11 says a held command has no step; that the model steps in place is its choice (log entry 4). -/
def Obligations.CommandsHoldWhileBusy : Prop :=
  ∀ (s : State) (n : Word) (skip : Bool), s.busy = true →
    exec (.raPush n) s = .next s ∧ exec (.raSetpol skip) s = .next s ∧ exec .raClear s = .next s
    ∧ (∀ c i, s.cmds.head? = some c → decode s.cfg c = .ok i →
        (i = .raPush n ∨ i = .raSetpol skip ∨ i = .raClear) → s.cmdReady = false)
    ∧ (∀ c, s.cmds.head? = some c → decode s.cfg c = .ok (.raPush n) → n.toNat ≤ s.stream.length →
        hostReady { s with sc := .idle } = true)

/-- R181: `RA.SETPOL`. R11 says a held command has no step; that the model steps in place is its choice (log entry 4). -/
def Obligations.RaSetpolWritesThePolicy : Prop :=
  ∀ (s : State) (skip : Bool) (c : Command),
    (c.op = 0xC1#8 → decode s.cfg c = .ok (.raSetpol (c.arg.getLsbD 0)))
    ∧ (s.busy = true → exec (.raSetpol skip) s = .next s)
    ∧ (s.busy = false →
        exec (.raSetpol skip) s = .next { s with cmds := s.cmds.tail, skip := skip, resp := some ⟨0, [], none⟩ })

/-- R185 with R29: `RA.STATUS` never holds; its result has the register's bits. -/
def Obligations.RaStatusReadsTheStatusBits : Prop :=
  ∀ (s : State) (c : Command),
    (c.op = 0xC2#8 → decode s.cfg c = .ok .raStatus)
    ∧ ∃ res : DWord, exec .raStatus s = .next (replied s ⟨res, [], none⟩)
      ∧ res.getLsbD 0 = s.skip
      ∧ (res.getLsbD 1 = true ↔ s.sc ≠ .idle)
      ∧ (res.getLsbD 2 = true ↔ 0 < s.evq.length)
      ∧ (res.getLsbD 3 = true ↔ s.evq.length = s.cfg.evqDepth)
      ∧ res.getLsbD 4 = s.errIllop
      ∧ res.getLsbD 5 = s.errOvf
      ∧ res.extractLsb' 6 58 = 0

/-- R182: `RA.COUNT`: `FCOUNT` in `SC = Idle`; while BUSY it completes with some 32-bit value, zero-extended. That it
then advances `draws`, the model's own counter, is the model's choice (log entry 7). -/
def Obligations.RaCountReadsTheCounter : Prop :=
  ∀ (s : State) (c : Command),
    (c.op = 0xC3#8 → decode s.cfg c = .ok .raCount)
    ∧ (s.busy = false → exec .raCount s = .next (replied s ⟨s.fcount.setWidth 64, [], none⟩))
    ∧ (s.busy = true → ∃ v : Word,
        exec .raCount s = .next { replied s ⟨v.setWidth 64, [], none⟩ with draws := s.draws + 1 })

/-- R183: `RA.PENDLEN`: `|PEND|` in `SC = Idle`; while BUSY it completes with some 32-bit value, zero-extended. That it
then advances `draws`, the model's own counter, is the model's choice (log entry 7). -/
def Obligations.RaPendlenReadsTheLength : Prop :=
  ∀ (s : State) (c : Command),
    (c.op = 0xC4#8 → decode s.cfg c = .ok .raPendlen)
    ∧ (s.busy = false → exec .raPendlen s = .next (replied s ⟨(BitVec.ofNat 32 s.pend.length).setWidth 64, [], none⟩))
    ∧ (s.busy = true → ∃ v : Word,
        exec .raPendlen s = .next { replied s ⟨v.setWidth 64, [], none⟩ with draws := s.draws + 1 })

/-- R184: `RA.CLEAR` re-creates the decoder; `BO_REG` is not touched. R11 says a held command has no step; that the model
steps in place is its choice (log entry 4). -/
def Obligations.RaClearRecreatesTheDecoder : Prop :=
  ∀ (s : State) (c : Command),
    (c.op = 0xC5#8 → decode s.cfg c = .ok .raClear)
    ∧ (s.busy = true → exec .raClear s = .next s)
    ∧ (s.busy = false → exec .raClear s = .next { s with
        cmds := s.cmds.tail, pend := [], fcount := 0, skip := true, evq := [], errIllop := false, errOvf := false
        resp := some ⟨0, [], none⟩ })

/-- R186 with R70's header: `RA.EVPOP` never holds; an event's header has its bits and its bytes go to `dout`; an empty
`EVQ` gives `res = 0` and no `dout`. -/
def Obligations.RaEvpopTakesTheOldestEvent : Prop :=
  ∀ (s : State) (c : Command),
    (c.op = 0xC6#8 → decode s.cfg c = .ok .raEvpop)
    ∧ (s.evq = [] → exec .raEvpop s = .next (replied s ⟨0, [], none⟩))
    ∧ (∀ ev evs, s.evq = ev :: evs →
        ∃ res : DWord, exec .raEvpop s = .next { replied s ⟨res, ev.bytes, none⟩ with evq := evs }
          ∧ res.getLsbD 0 = true ∧ res.extractLsb' 1 8 = ev.id ∧ res.extractLsb' 9 16 = ev.length
          ∧ res.extractLsb' 25 16 = ev.crcExpected ∧ res.getLsbD 41 = ev.crcError
          ∧ res.extractLsb' 42 4 = categoryCode ev.category ∧ res.extractLsb' 46 18 = 0)

/-- R47: `RA.EVPOP` removes the event it returns; the other reads have no side effect on any state, but for a BO
command's load of `BO_REG` and the model's own draw counter, and issued again they answer the same `res` and `dout`, but for
`RA.COUNT` and `RA.PENDLEN` while BUSY: their values are unspecified then (R241), and that the model draws one anew at each
read is its choice (log entry 7). -/
def Obligations.ReadsHaveNoSideEffect : Prop :=
  ∀ (s : State),
    (∀ ev evs, s.evq = ev :: evs → ∃ t, exec .raEvpop s = .next t ∧ t.evq = evs)
    ∧ ∀ i : Instr, isRead i → (∀ c d, i = .crcFold c d → WellFormed s.cfg i = true) →
      ∃ (r : Reply) (b : BoReg) (n : Nat),
        exec i s = .next { s with cmds := s.cmds.tail, resp := some r, boReg := b, draws := n }
        ∧ (isBo i = false ∨ s.cfg.boPipe = false → b = s.boReg)
        ∧ (s.busy = false ∨ (i ≠ .raCount ∧ i ≠ .raPendlen) → n = s.draws
            ∧ ∃ t q, exec i { s with cmds := s.cmds.tail, resp := some r, boReg := b, draws := n } = .next t
                ∧ t.resp = some q ∧ q.res = r.res ∧ q.dout = r.dout)

/-! ### The scan -/

/-- R168 with R169 and R170: the scan step, line by line, and the two CRC tests. -/
def Obligations.ScanStepFollowsItsText : Prop :=
  (∀ (s : State) (w : List Byte) (cur : Nat), s.sc = .scan w cur → scanStep s = scanStepText s w cur)
  ∧ ∀ (w : List Byte) (cur len : Nat),
      crcTest .perFrame w cur len = crc16 (slice w cur (cur + len - 2))
      ∧ crcTest .bufferEnd w cur len = crc16 (slice w cur (w.length - 2))

/-- R171: a step that would emit while `|EVQ| = EVQ_DEPTH` changes no state and is no step of the scanner; an
`RA.EVPOP` lifts the hold. -/
def Obligations.FullFifoHoldsTheScanner : Prop :=
  ∀ (s : State) (w : List Byte) (cur : Nat) (ev : Event), s.sc = .scan w cur →
    scanDecision s.cfg s.skip w cur = .accept ev → s.evq.length = s.cfg.evqDepth → 1 ≤ s.cfg.evqDepth →
    scanStep s = s ∧ scanReady s = false ∧ ∃ t, exec .raEvpop s = .next t ∧ scanReady t = true

/-- R167: which scan steps count, each exactly once: those that find a complete candidate with `L != 0` and are not
held (R171). -/
def Obligations.CompleteCandidatesAreCountedOnce : Prop :=
  ∀ (s : State) (w : List Byte) (cur : Nat), s.sc = .scan w cur →
    (scanStep s).fcount =
      if 2 ≤ w.length - cur ∧ cur + (u16be w cur).toNat ≤ w.length ∧ u16be w cur ≠ 0 ∧ scanHeld s = false
      then s.fcount + 1 else s.fcount

/-- Progress (43_reassembler.md §4, derived there from R168): a scan step that neither finishes nor is held moves the
cursor forward and keeps it inside `W`. -/
def Obligations.ScanMakesProgress : Prop :=
  ∀ (s : State) (w : List Byte) (cur : Nat), s.sc = .scan w cur → cur ≤ w.length → scanHeld s = false →
    (scanStep s).sc = .idle ∨ ∃ cur', (scanStep s).sc = .scan w cur' ∧ cur < cur' ∧ cur' ≤ w.length

/-- Progress (43_reassembler.md §4): with room in `EVQ` for one event a byte, a scan finishes within `|W| + 1` steps. -/
def Obligations.ScanFinishesInTime : Prop :=
  ∀ (s : State) (w : List Byte) (cur : Nat), s.sc = .scan w cur → cur ≤ w.length →
    s.evq.length + (w.length - cur) ≤ s.cfg.evqDepth →
    (scanSteps (w.length + 1) s).sc = .idle

/-- The chunk-level summary (43_reassembler.md §4, derived there from R162, R168, R170): after an `RA.PUSH`, however scan
steps and pops interleave, once `SC = Idle` the block holds what R173's `Decode` gives, the events popped or queued in
order. -/
def Obligations.ScanComputesTheChunkSummary : Prop :=
  ∀ (s : State) (chunk : List Byte) (turns : List Bool), s.busy = false →
    workOverflow s.cfg (s.pend ++ chunk).length = false →
    let r := decodeChunk s.cfg s.pend s.skip s.fcount chunk
    r.pend.length ≤ s.cfg.pendCap →
    let x := scanAndPop turns (pushChunk chunk s, [])
    x.1.sc = .idle →
    x.1.pend = r.pend ∧ x.1.fcount = r.fcount ∧ x.2 ++ x.1.evq = s.evq ++ r.events
      ∧ x.1.skip = s.skip ∧ x.1.errOvf = s.errOvf

/-- Chunk-boundary invariance in PER_FRAME mode (43_reassembler.md §4, derived there from R168 and R169). -/
def Obligations.ChunkBoundariesDoNotMatter : Prop :=
  ∀ (p : Params) (pend : List Byte) (skip : Bool) (k : Word) (a b : List Byte), p.crcSlice = .perFrame →
    let r₁ := decodeChunk p pend skip k a
    let r₂ := decodeChunk p r₁.pend skip r₁.fcount b
    decodeChunk p pend skip k (a ++ b) = ⟨r₂.pend, r₂.fcount, r₁.events ++ r₂.events⟩

/-- An empty chunk rescans `PEND` and changes nothing (43_reassembler.md R164's derived half), from every state whose
`PEND` stands where a scan stops. -/
def Obligations.EmptyChunkChangesNothing : Prop :=
  ∀ (s : State), s.sc = .idle → stopped s.pend → s.pend.length ≤ s.cfg.pendCap →
    workOverflow s.cfg s.pend.length = false →
    (pushChunk [] s).sc = .scan s.pend 0 ∧ scanStep (pushChunk [] s) = s

/-- R170's bound (derived there from R168): with `PEND_CAP` at least 65534, as in the default build, no finish
overflows; the leftover of a finish is at most 65534 bytes. -/
def Obligations.DefaultPendingBufferNeverOverflows : Prop :=
  ∀ (s : State), (s.pend.length ≤ 65534 → (scanStep s).pend.length ≤ 65534)
    ∧ (65534 ≤ s.cfg.pendCap → (scanStep s).errOvf = s.errOvf)

/-- One byte of a `BUFFER_END` candidate's surroundings (43_reassembler.md §4): the two modes agree on a candidate that
ends the buffer, and for a valid frame followed by at least two bytes BUFFER_END computes the CRC of what follows it
but for the buffer's last two bytes. (With exactly one byte following, the frame's own last byte is cut off and the
derivation of R175 does not apply; see NOTES.md.) -/
def Obligations.BufferEndComputesTheRestOfTheBuffer : Prop :=
  ∀ (w : List Byte) (cur len : Nat), 5 ≤ len →
    (cur + len = w.length → crcTest .bufferEnd w cur len = crcTest .perFrame w cur len)
    ∧ (cur + len + 2 ≤ w.length → validFrame (slice w cur (cur + len)) = true →
        crcTest .bufferEnd w cur len = crc16 (slice w (cur + len) (w.length - 2)))

/-- A valid frame of an accepted id is delivered (95_test_vectors.md E4), and behind one stray byte `0x00` in the same
chunk too if it is shorter than 256 bytes (43_reassembler.md §4, resynchronization case 1). -/
def Obligations.ValidFramesAreDelivered : Prop :=
  ∀ (p : Params) (skip : Bool) (k : Word) (f : List Byte), validFrame f = true →
    (flv p.ids (frameId f) (u16be f 0) (frameCfg f)).ok = true →
    let ev : Event := ⟨frameId f, u16be f 0, crc16 (f.take (f.length - 2)), false, registry p.ids (frameId f), f⟩
    decodeChunk p [] skip k f = ⟨[], k + 1, [ev]⟩
    ∧ (f.length < 256 → decodeChunk p [] skip k (0x00#8 :: f) = ⟨[], k + 1, [ev]⟩)

/-- A corrupted frame (95_test_vectors.md E8, R25): with `SKIP = 1` no event is emitted whose checksum disagreed, and in
either policy an event's `crc_error` is 1 exactly when the computed CRC differs from the trailer. -/
def Obligations.ChecksumPolicyGovernsDelivery : Prop :=
  ∀ (s : State) (w : List Byte) (cur : Nat) (ev : Event), s.sc = .scan w cur → (scanStep s).evq = s.evq ++ [ev] →
    (ev.crcError = true ↔ crcTest s.cfg.crcSlice w cur ev.length.toNat ≠ ev.crcExpected)
    ∧ (s.skip = true → ev.crcError = false)

/-! ### Whole-machine rules -/

/-- The invariant holds at reset in every legal build. -/
def Obligations.InvariantHoldsAtReset : Prop :=
  ∀ (p : Params), p.legal = true → (State.resetWith p).Inv

/-- Every step of either agent keeps the invariant. -/
def Obligations.EveryStepKeepsTheInvariant : Prop :=
  ∀ (s t : State), s.Inv → step s = .next t → t.Inv

/-- R26, R50: nothing but the scanner appends an event, at the end; nothing but `RA.EVPOP` takes one, from the front;
nothing but `RA.CLEAR` and reset discards them. -/
def Obligations.EventsKeepTheirOrder : Prop :=
  ∀ (s t : State), step s = .next t →
    t.evq = s.evq
    ∨ (nextMove s = .scan ∧ ∃ ev, t.evq = s.evq ++ [ev])
    ∨ (nextMove s = .command .raEvpop ∧ t.evq = s.evq.tail)
    ∨ ((nextMove s = .command .raClear ∨ nextMove s = .reset) ∧ t.evq = [])

/-- R25: outside reset the policy does not change while a chunk is being decoded, and elsewhere only `RA.SETPOL` and
`RA.CLEAR` write it. -/
def Obligations.PolicyIsFixedDuringAScan : Prop :=
  ∀ (s t : State), s.rst = false → step s = .next t →
    (s.busy = true → t.skip = s.skip)
    ∧ (t.skip ≠ s.skip → nextMove s = .command .raClear ∨ ∃ b, nextMove s = .command (.raSetpol b) ∧ t.skip = b)

/-- R27: the error bits are sticky: only `RA.CLEAR` and reset clear them; and they are set only as R64, R163 and R170
say; a state with either bit is a faulted one (log entry 6). -/
def Obligations.ErrorBitsAreSticky : Prop :=
  ∀ (s t : State), step s = .next t →
    (s.errIllop = true → t.errIllop = true ∨ nextMove s = .reset ∨ nextMove s = .command .raClear)
    ∧ (s.errOvf = true → t.errOvf = true ∨ nextMove s = .reset ∨ nextMove s = .command .raClear)
    ∧ (s.errIllop = false → t.errIllop = true → nextMove s = .reserved)
    ∧ (s.errOvf = false → t.errOvf = true → nextMove s = .scan ∨ ∃ n, nextMove s = .command (.raPush n))
    ∧ (t.recordedFault ≠ none ↔ t.errIllop = true ∨ t.errOvf = true)

/-- R24: the counter changes by one in a scan step, or to 0 by `RA.CLEAR` or reset. -/
def Obligations.OnlyTheScanCounts : Prop :=
  ∀ (s t : State), step s = .next t → t.fcount ≠ s.fcount →
    (nextMove s = .scan ∧ t.fcount = s.fcount + 1)
    ∨ ((nextMove s = .command .raClear ∨ nextMove s = .reset) ∧ t.fcount = 0)

/-- R22: `PEND` changes only when a scan finishes, when `RA.PUSH` takes it, by `RA.CLEAR` and by reset. -/
def Obligations.PendingBytesChangeOnlyAtTheScanEnds : Prop :=
  ∀ (s t : State), step s = .next t → t.pend ≠ s.pend →
    (nextMove s = .scan ∧ t.sc = .idle)
    ∨ (t.pend = [] ∧ (nextMove s = .reset ∨ nextMove s = .command .raClear ∨ ∃ n, nextMove s = .command (.raPush n)))

/-- R7: no parameter changes while the block runs. Nor does any step move the pins `rst` and `crcPort`: that they stand
in the state and move from outside alone is the model's choice (log entries 8 and 13). -/
def Obligations.ParametersNeverChange : Prop :=
  ∀ (s t : State), step s = .next t → t.cfg = s.cfg ∧ t.rst = s.rst ∧ t.crcPort = s.crcPort

/-- R49: commands leave the port in the order they were issued, one at a time, and only when the host moves. -/
def Obligations.CommandsAreTakenInOrder : Prop :=
  ∀ (s t : State), step s = .next t →
    t.cmds = s.cmds ∨ (t.cmds = s.cmds.tail ∧ (nextMove s = .reserved ∨ ∃ i, nextMove s = .command i))

/-- R210: `ev_pending` is 1 exactly when `|EVQ| > 0`; a scan step raises it only by emitting into an empty `EVQ`, and no
scan step lowers it. -/
def Obligations.EvPendingFollowsTheFifo : Prop :=
  ∀ (s : State), (s.evPending = true ↔ s.evq ≠ [])
    ∧ (s.evPending = false → (scanStep s).evPending = true → ∃ ev, (scanStep s).evq = [ev])
    ∧ (s.evPending = true → (scanStep s).evPending = true)

/-- R240: with a scan held on a full `EVQ` and a command that holds while BUSY on the port, no agent has a step: the
block waits for ever, unless reset. That such a state steps in place is the model's choice (log entry 4). -/
def Obligations.FullFifoAndHeldCommandDeadlock : Prop :=
  ∀ (s : State) (c : Command) (i : Instr), s.rst = false → scanHeld s = true → s.cmds.head? = some c →
    decode s.cfg c = .ok i → waitsForIdle i = true → s.turn = none → step s = .next s
end

