-- ==== Sys2Proof/Laws/Sequence.lean ====
section
/-! SUPPORT. Byte sequences: what a slice holds and how field reads pass through slices and drops. -/

namespace Sys2Proof.Machine

theorem length_slice (s : List Byte) (a b : Nat) : (slice s a b).length = min (b - a) (s.length - a) := by
  simp [slice]

theorem length_slice_of_le {s : List Byte} {a b : Nat} (h : b ≤ s.length) : (slice s a b).length = b - a := by
  rw [length_slice]; omega

/-- A slice to the end is what a drop leaves. -/
theorem slice_to_end (s : List Byte) (a : Nat) : slice s a s.length = s.drop a := by
  simp only [slice]
  exact List.take_of_length_le (by simp)

theorem byteAt_drop (s : List Byte) (a i : Nat) : byteAt (s.drop a) i = byteAt s (a + i) := by
  simp [byteAt, List.getD_eq_getElem?_getD]

theorem byteAt_slice {s : List Byte} {a b i : Nat} (h : i < b - a) : byteAt (slice s a b) i = byteAt s (a + i) := by
  simp [byteAt, slice, List.getD_eq_getElem?_getD, h]

theorem byteAt_append_left {s t : List Byte} {i : Nat} (h : i < s.length) : byteAt (s ++ t) i = byteAt s i := by
  simp [byteAt, List.getD_eq_getElem?_getD, List.getElem?_append_left h]

theorem u16be_drop (s : List Byte) (a i : Nat) : u16be (s.drop a) i = u16be s (a + i) := by
  simp only [u16be, byteAt_drop, Nat.add_assoc]

theorem u16be_slice {s : List Byte} {a b i : Nat} (h : i + 1 < b - a) : u16be (slice s a b) i = u16be s (a + i) := by
  simp only [u16be]
  rw [byteAt_slice (by omega), byteAt_slice h, Nat.add_assoc]

theorem u16be_append_left {s t : List Byte} {i : Nat} (h : i + 1 < s.length) : u16be (s ++ t) i = u16be s i := by
  simp only [u16be]
  rw [byteAt_append_left (by omega), byteAt_append_left h]

theorem slice_append_left {s t : List Byte} {a b : Nat} (h : b ≤ s.length) : slice (s ++ t) a b = slice s a b := by
  simp only [slice, List.drop_append, List.take_append, List.length_drop]
  have : b - a - (s.length - a) = 0 := by omega
  simp [this]

/-- A slice of a drop is a slice further on. -/
theorem slice_drop (s : List Byte) (c a b : Nat) : slice (s.drop c) a b = slice s (c + a) (c + b) := by
  simp only [slice, List.drop_drop]
  congr 1
  omega

/-- A slice cut in two. -/
theorem slice_split {s : List Byte} {a b c : Nat} (hab : a ≤ b) (hbc : b ≤ c) :
    slice s a c = slice s a b ++ slice s b c := by
  simp only [slice]
  have h : c - a = (b - a) + (c - b) := by omega
  rw [h, List.take_add, List.drop_drop]
  congr 3
  omega

theorem u16be_toNat_lt (s : List Byte) (i : Nat) : (u16be s i).toNat < 65536 := (u16be s i).isLt

end Sys2Proof.Machine
end

