-- ==== Sys2Proof/Laws/State.lean ====
section
/-! SUPPORT. What each state update leaves in each field, one lemma a field, so that no proof unfolds an update. -/

namespace Sys2Proof.Machine

section
variable (s : State)

@[simp] theorem setIllop_cfg : (setIllop s).cfg = s.cfg := rfl
@[simp] theorem setIllop_pend : (setIllop s).pend = s.pend := rfl
@[simp] theorem setIllop_sc : (setIllop s).sc = s.sc := rfl
@[simp] theorem setIllop_fcount : (setIllop s).fcount = s.fcount := rfl
@[simp] theorem setIllop_skip : (setIllop s).skip = s.skip := rfl
@[simp] theorem setIllop_evq : (setIllop s).evq = s.evq := rfl
@[simp] theorem setIllop_errIllop : (setIllop s).errIllop = true := rfl
@[simp] theorem setIllop_errOvf : (setIllop s).errOvf = s.errOvf := rfl
@[simp] theorem setIllop_boReg : (setIllop s).boReg = s.boReg := rfl
@[simp] theorem setIllop_cmds : (setIllop s).cmds = s.cmds := rfl
@[simp] theorem setIllop_stream : (setIllop s).stream = s.stream := rfl
@[simp] theorem setIllop_rst : (setIllop s).rst = s.rst := rfl
@[simp] theorem setIllop_crcPort : (setIllop s).crcPort = s.crcPort := rfl
@[simp] theorem setIllop_resp : (setIllop s).resp = s.resp := rfl
@[simp] theorem setIllop_draws : (setIllop s).draws = s.draws := rfl
@[simp] theorem setIllop_turn : (setIllop s).turn = s.turn := rfl

@[simp] theorem setOvf_cfg : (setOvf s).cfg = s.cfg := rfl
@[simp] theorem setOvf_pend : (setOvf s).pend = s.pend := rfl
@[simp] theorem setOvf_sc : (setOvf s).sc = s.sc := rfl
@[simp] theorem setOvf_fcount : (setOvf s).fcount = s.fcount := rfl
@[simp] theorem setOvf_skip : (setOvf s).skip = s.skip := rfl
@[simp] theorem setOvf_evq : (setOvf s).evq = s.evq := rfl
@[simp] theorem setOvf_errIllop : (setOvf s).errIllop = s.errIllop := rfl
@[simp] theorem setOvf_errOvf : (setOvf s).errOvf = true := rfl
@[simp] theorem setOvf_boReg : (setOvf s).boReg = s.boReg := rfl
@[simp] theorem setOvf_cmds : (setOvf s).cmds = s.cmds := rfl
@[simp] theorem setOvf_stream : (setOvf s).stream = s.stream := rfl
@[simp] theorem setOvf_rst : (setOvf s).rst = s.rst := rfl
@[simp] theorem setOvf_crcPort : (setOvf s).crcPort = s.crcPort := rfl
@[simp] theorem setOvf_resp : (setOvf s).resp = s.resp := rfl
@[simp] theorem setOvf_draws : (setOvf s).draws = s.draws := rfl
@[simp] theorem setOvf_turn : (setOvf s).turn = s.turn := rfl

@[simp] theorem emit_cfg (e : Event) : (emit e s).cfg = s.cfg := rfl
@[simp] theorem emit_pend (e : Event) : (emit e s).pend = s.pend := rfl
@[simp] theorem emit_sc (e : Event) : (emit e s).sc = s.sc := rfl
@[simp] theorem emit_fcount (e : Event) : (emit e s).fcount = s.fcount := rfl
@[simp] theorem emit_skip (e : Event) : (emit e s).skip = s.skip := rfl
@[simp] theorem emit_evq (e : Event) : (emit e s).evq = s.evq ++ [e] := rfl
@[simp] theorem emit_errIllop (e : Event) : (emit e s).errIllop = s.errIllop := rfl
@[simp] theorem emit_errOvf (e : Event) : (emit e s).errOvf = s.errOvf := rfl
@[simp] theorem emit_boReg (e : Event) : (emit e s).boReg = s.boReg := rfl
@[simp] theorem emit_cmds (e : Event) : (emit e s).cmds = s.cmds := rfl
@[simp] theorem emit_stream (e : Event) : (emit e s).stream = s.stream := rfl
@[simp] theorem emit_rst (e : Event) : (emit e s).rst = s.rst := rfl
@[simp] theorem emit_crcPort (e : Event) : (emit e s).crcPort = s.crcPort := rfl
@[simp] theorem emit_resp (e : Event) : (emit e s).resp = s.resp := rfl
@[simp] theorem emit_draws (e : Event) : (emit e s).draws = s.draws := rfl
@[simp] theorem emit_turn (e : Event) : (emit e s).turn = s.turn := rfl

@[simp] theorem dropEvent_cfg : (dropEvent s).cfg = s.cfg := rfl
@[simp] theorem dropEvent_pend : (dropEvent s).pend = s.pend := rfl
@[simp] theorem dropEvent_sc : (dropEvent s).sc = s.sc := rfl
@[simp] theorem dropEvent_fcount : (dropEvent s).fcount = s.fcount := rfl
@[simp] theorem dropEvent_skip : (dropEvent s).skip = s.skip := rfl
@[simp] theorem dropEvent_evq : (dropEvent s).evq = s.evq.tail := rfl
@[simp] theorem dropEvent_errIllop : (dropEvent s).errIllop = s.errIllop := rfl
@[simp] theorem dropEvent_errOvf : (dropEvent s).errOvf = s.errOvf := rfl
@[simp] theorem dropEvent_boReg : (dropEvent s).boReg = s.boReg := rfl
@[simp] theorem dropEvent_cmds : (dropEvent s).cmds = s.cmds := rfl
@[simp] theorem dropEvent_stream : (dropEvent s).stream = s.stream := rfl
@[simp] theorem dropEvent_rst : (dropEvent s).rst = s.rst := rfl
@[simp] theorem dropEvent_crcPort : (dropEvent s).crcPort = s.crcPort := rfl
@[simp] theorem dropEvent_resp : (dropEvent s).resp = s.resp := rfl
@[simp] theorem dropEvent_draws : (dropEvent s).draws = s.draws := rfl
@[simp] theorem dropEvent_turn : (dropEvent s).turn = s.turn := rfl

@[simp] theorem complete_cfg (r : Reply) : (complete r s).cfg = s.cfg := rfl
@[simp] theorem complete_pend (r : Reply) : (complete r s).pend = s.pend := rfl
@[simp] theorem complete_sc (r : Reply) : (complete r s).sc = s.sc := rfl
@[simp] theorem complete_fcount (r : Reply) : (complete r s).fcount = s.fcount := rfl
@[simp] theorem complete_skip (r : Reply) : (complete r s).skip = s.skip := rfl
@[simp] theorem complete_evq (r : Reply) : (complete r s).evq = s.evq := rfl
@[simp] theorem complete_errIllop (r : Reply) : (complete r s).errIllop = s.errIllop := rfl
@[simp] theorem complete_errOvf (r : Reply) : (complete r s).errOvf = s.errOvf := rfl
@[simp] theorem complete_boReg (r : Reply) : (complete r s).boReg = s.boReg := rfl
@[simp] theorem complete_cmds (r : Reply) : (complete r s).cmds = s.cmds.tail := rfl
@[simp] theorem complete_stream (r : Reply) : (complete r s).stream = s.stream := rfl
@[simp] theorem complete_rst (r : Reply) : (complete r s).rst = s.rst := rfl
@[simp] theorem complete_crcPort (r : Reply) : (complete r s).crcPort = s.crcPort := rfl
@[simp] theorem complete_resp (r : Reply) : (complete r s).resp = some r := rfl
@[simp] theorem complete_draws (r : Reply) : (complete r s).draws = s.draws := rfl
@[simp] theorem complete_turn (r : Reply) : (complete r s).turn = s.turn := rfl

@[simp] theorem takeReserved_cfg : (takeReserved s).cfg = s.cfg := rfl
@[simp] theorem takeReserved_pend : (takeReserved s).pend = s.pend := rfl
@[simp] theorem takeReserved_sc : (takeReserved s).sc = s.sc := rfl
@[simp] theorem takeReserved_fcount : (takeReserved s).fcount = s.fcount := rfl
@[simp] theorem takeReserved_skip : (takeReserved s).skip = s.skip := rfl
@[simp] theorem takeReserved_evq : (takeReserved s).evq = s.evq := rfl
@[simp] theorem takeReserved_errIllop : (takeReserved s).errIllop = true := rfl
@[simp] theorem takeReserved_errOvf : (takeReserved s).errOvf = s.errOvf := rfl
@[simp] theorem takeReserved_boReg : (takeReserved s).boReg = s.boReg := rfl
@[simp] theorem takeReserved_cmds : (takeReserved s).cmds = s.cmds.tail := rfl
@[simp] theorem takeReserved_stream : (takeReserved s).stream = s.stream := rfl
@[simp] theorem takeReserved_rst : (takeReserved s).rst = s.rst := rfl
@[simp] theorem takeReserved_crcPort : (takeReserved s).crcPort = s.crcPort := rfl
@[simp] theorem takeReserved_resp : (takeReserved s).resp = some (plainReply 0) := rfl
@[simp] theorem takeReserved_draws : (takeReserved s).draws = s.draws := rfl
@[simp] theorem takeReserved_turn : (takeReserved s).turn = s.turn := rfl

@[simp] theorem drawn_cfg : (drawn s).cfg = s.cfg := rfl
@[simp] theorem drawn_pend : (drawn s).pend = s.pend := rfl
@[simp] theorem drawn_sc : (drawn s).sc = s.sc := rfl
@[simp] theorem drawn_fcount : (drawn s).fcount = s.fcount := rfl
@[simp] theorem drawn_skip : (drawn s).skip = s.skip := rfl
@[simp] theorem drawn_evq : (drawn s).evq = s.evq := rfl
@[simp] theorem drawn_errIllop : (drawn s).errIllop = s.errIllop := rfl
@[simp] theorem drawn_errOvf : (drawn s).errOvf = s.errOvf := rfl
@[simp] theorem drawn_boReg : (drawn s).boReg = s.boReg := rfl
@[simp] theorem drawn_cmds : (drawn s).cmds = s.cmds := rfl
@[simp] theorem drawn_stream : (drawn s).stream = s.stream := rfl
@[simp] theorem drawn_rst : (drawn s).rst = s.rst := rfl
@[simp] theorem drawn_crcPort : (drawn s).crcPort = s.crcPort := rfl
@[simp] theorem drawn_resp : (drawn s).resp = s.resp := rfl
@[simp] theorem drawn_draws : (drawn s).draws = s.draws + 1 := rfl
@[simp] theorem drawn_turn : (drawn s).turn = s.turn := rfl

@[simp] theorem resetBlock_cfg : (resetBlock s).cfg = s.cfg := rfl
@[simp] theorem resetBlock_pend : (resetBlock s).pend = [] := rfl
@[simp] theorem resetBlock_sc : (resetBlock s).sc = .idle := rfl
@[simp] theorem resetBlock_fcount : (resetBlock s).fcount = 0 := rfl
@[simp] theorem resetBlock_skip : (resetBlock s).skip = skipReset := rfl
@[simp] theorem resetBlock_evq : (resetBlock s).evq = [] := rfl
@[simp] theorem resetBlock_errIllop : (resetBlock s).errIllop = false := rfl
@[simp] theorem resetBlock_errOvf : (resetBlock s).errOvf = false := rfl
@[simp] theorem resetBlock_boReg : (resetBlock s).boReg = BoReg.zero := rfl
@[simp] theorem resetBlock_cmds : (resetBlock s).cmds = s.cmds := rfl
@[simp] theorem resetBlock_stream : (resetBlock s).stream = s.stream := rfl
@[simp] theorem resetBlock_rst : (resetBlock s).rst = s.rst := rfl
@[simp] theorem resetBlock_crcPort : (resetBlock s).crcPort = s.crcPort := rfl
@[simp] theorem resetBlock_resp : (resetBlock s).resp = none := rfl
@[simp] theorem resetBlock_draws : (resetBlock s).draws = s.draws := rfl
@[simp] theorem resetBlock_turn : (resetBlock s).turn = none := rfl

@[simp] theorem clearDecoder_cfg : (clearDecoder s).cfg = s.cfg := rfl
@[simp] theorem clearDecoder_pend : (clearDecoder s).pend = [] := rfl
@[simp] theorem clearDecoder_sc : (clearDecoder s).sc = s.sc := rfl
@[simp] theorem clearDecoder_fcount : (clearDecoder s).fcount = 0 := rfl
@[simp] theorem clearDecoder_skip : (clearDecoder s).skip = skipReset := rfl
@[simp] theorem clearDecoder_evq : (clearDecoder s).evq = [] := rfl
@[simp] theorem clearDecoder_errIllop : (clearDecoder s).errIllop = false := rfl
@[simp] theorem clearDecoder_errOvf : (clearDecoder s).errOvf = false := rfl
@[simp] theorem clearDecoder_boReg : (clearDecoder s).boReg = s.boReg := rfl
@[simp] theorem clearDecoder_cmds : (clearDecoder s).cmds = s.cmds := rfl
@[simp] theorem clearDecoder_stream : (clearDecoder s).stream = s.stream := rfl
@[simp] theorem clearDecoder_rst : (clearDecoder s).rst = s.rst := rfl
@[simp] theorem clearDecoder_crcPort : (clearDecoder s).crcPort = s.crcPort := rfl
@[simp] theorem clearDecoder_resp : (clearDecoder s).resp = s.resp := rfl
@[simp] theorem clearDecoder_draws : (clearDecoder s).draws = s.draws := rfl
@[simp] theorem clearDecoder_turn : (clearDecoder s).turn = s.turn := rfl

@[simp] theorem issueCommand_cfg (c : Command) : (issueCommand c s).cfg = s.cfg := rfl
@[simp] theorem issueCommand_pend (c : Command) : (issueCommand c s).pend = s.pend := rfl
@[simp] theorem issueCommand_sc (c : Command) : (issueCommand c s).sc = s.sc := rfl
@[simp] theorem issueCommand_fcount (c : Command) : (issueCommand c s).fcount = s.fcount := rfl
@[simp] theorem issueCommand_skip (c : Command) : (issueCommand c s).skip = s.skip := rfl
@[simp] theorem issueCommand_evq (c : Command) : (issueCommand c s).evq = s.evq := rfl
@[simp] theorem issueCommand_errIllop (c : Command) : (issueCommand c s).errIllop = s.errIllop := rfl
@[simp] theorem issueCommand_errOvf (c : Command) : (issueCommand c s).errOvf = s.errOvf := rfl
@[simp] theorem issueCommand_boReg (c : Command) : (issueCommand c s).boReg = s.boReg := rfl
@[simp] theorem issueCommand_cmds (c : Command) : (issueCommand c s).cmds = s.cmds ++ [c] := rfl
@[simp] theorem issueCommand_stream (c : Command) : (issueCommand c s).stream = s.stream := rfl
@[simp] theorem issueCommand_rst (c : Command) : (issueCommand c s).rst = s.rst := rfl
@[simp] theorem issueCommand_crcPort (c : Command) : (issueCommand c s).crcPort = s.crcPort := rfl
@[simp] theorem issueCommand_resp (c : Command) : (issueCommand c s).resp = s.resp := rfl
@[simp] theorem issueCommand_draws (c : Command) : (issueCommand c s).draws = s.draws := rfl
@[simp] theorem issueCommand_turn (c : Command) : (issueCommand c s).turn = s.turn := rfl

@[simp] theorem supplyChunk_cfg (bs : List Byte) : (supplyChunk bs s).cfg = s.cfg := rfl
@[simp] theorem supplyChunk_pend (bs : List Byte) : (supplyChunk bs s).pend = s.pend := rfl
@[simp] theorem supplyChunk_sc (bs : List Byte) : (supplyChunk bs s).sc = s.sc := rfl
@[simp] theorem supplyChunk_fcount (bs : List Byte) : (supplyChunk bs s).fcount = s.fcount := rfl
@[simp] theorem supplyChunk_skip (bs : List Byte) : (supplyChunk bs s).skip = s.skip := rfl
@[simp] theorem supplyChunk_evq (bs : List Byte) : (supplyChunk bs s).evq = s.evq := rfl
@[simp] theorem supplyChunk_errIllop (bs : List Byte) : (supplyChunk bs s).errIllop = s.errIllop := rfl
@[simp] theorem supplyChunk_errOvf (bs : List Byte) : (supplyChunk bs s).errOvf = s.errOvf := rfl
@[simp] theorem supplyChunk_boReg (bs : List Byte) : (supplyChunk bs s).boReg = s.boReg := rfl
@[simp] theorem supplyChunk_cmds (bs : List Byte) : (supplyChunk bs s).cmds = s.cmds := rfl
@[simp] theorem supplyChunk_stream (bs : List Byte) : (supplyChunk bs s).stream = s.stream ++ bs := rfl
@[simp] theorem supplyChunk_rst (bs : List Byte) : (supplyChunk bs s).rst = s.rst := rfl
@[simp] theorem supplyChunk_crcPort (bs : List Byte) : (supplyChunk bs s).crcPort = s.crcPort := rfl
@[simp] theorem supplyChunk_resp (bs : List Byte) : (supplyChunk bs s).resp = s.resp := rfl
@[simp] theorem supplyChunk_draws (bs : List Byte) : (supplyChunk bs s).draws = s.draws := rfl
@[simp] theorem supplyChunk_turn (bs : List Byte) : (supplyChunk bs s).turn = s.turn := rfl

@[simp] theorem setRst_cfg (b : Bool) : (setRst b s).cfg = s.cfg := rfl
@[simp] theorem setRst_pend (b : Bool) : (setRst b s).pend = s.pend := rfl
@[simp] theorem setRst_sc (b : Bool) : (setRst b s).sc = s.sc := rfl
@[simp] theorem setRst_fcount (b : Bool) : (setRst b s).fcount = s.fcount := rfl
@[simp] theorem setRst_skip (b : Bool) : (setRst b s).skip = s.skip := rfl
@[simp] theorem setRst_evq (b : Bool) : (setRst b s).evq = s.evq := rfl
@[simp] theorem setRst_errIllop (b : Bool) : (setRst b s).errIllop = s.errIllop := rfl
@[simp] theorem setRst_errOvf (b : Bool) : (setRst b s).errOvf = s.errOvf := rfl
@[simp] theorem setRst_boReg (b : Bool) : (setRst b s).boReg = s.boReg := rfl
@[simp] theorem setRst_cmds (b : Bool) : (setRst b s).cmds = s.cmds := rfl
@[simp] theorem setRst_stream (b : Bool) : (setRst b s).stream = s.stream := rfl
@[simp] theorem setRst_rst (b : Bool) : (setRst b s).rst = b := rfl
@[simp] theorem setRst_crcPort (b : Bool) : (setRst b s).crcPort = s.crcPort := rfl
@[simp] theorem setRst_resp (b : Bool) : (setRst b s).resp = s.resp := rfl
@[simp] theorem setRst_draws (b : Bool) : (setRst b s).draws = s.draws := rfl
@[simp] theorem setRst_turn (b : Bool) : (setRst b s).turn = s.turn := rfl

@[simp] theorem setCrcPort_cfg (p : CrcPins) : (setCrcPort p s).cfg = s.cfg := rfl
@[simp] theorem setCrcPort_pend (p : CrcPins) : (setCrcPort p s).pend = s.pend := rfl
@[simp] theorem setCrcPort_sc (p : CrcPins) : (setCrcPort p s).sc = s.sc := rfl
@[simp] theorem setCrcPort_fcount (p : CrcPins) : (setCrcPort p s).fcount = s.fcount := rfl
@[simp] theorem setCrcPort_skip (p : CrcPins) : (setCrcPort p s).skip = s.skip := rfl
@[simp] theorem setCrcPort_evq (p : CrcPins) : (setCrcPort p s).evq = s.evq := rfl
@[simp] theorem setCrcPort_errIllop (p : CrcPins) : (setCrcPort p s).errIllop = s.errIllop := rfl
@[simp] theorem setCrcPort_errOvf (p : CrcPins) : (setCrcPort p s).errOvf = s.errOvf := rfl
@[simp] theorem setCrcPort_boReg (p : CrcPins) : (setCrcPort p s).boReg = s.boReg := rfl
@[simp] theorem setCrcPort_cmds (p : CrcPins) : (setCrcPort p s).cmds = s.cmds := rfl
@[simp] theorem setCrcPort_stream (p : CrcPins) : (setCrcPort p s).stream = s.stream := rfl
@[simp] theorem setCrcPort_rst (p : CrcPins) : (setCrcPort p s).rst = s.rst := rfl
@[simp] theorem setCrcPort_crcPort (p : CrcPins) : (setCrcPort p s).crcPort = p := rfl
@[simp] theorem setCrcPort_resp (p : CrcPins) : (setCrcPort p s).resp = s.resp := rfl
@[simp] theorem setCrcPort_draws (p : CrcPins) : (setCrcPort p s).draws = s.draws := rfl
@[simp] theorem setCrcPort_turn (p : CrcPins) : (setCrcPort p s).turn = s.turn := rfl

@[simp] theorem loadBoReg_cfg (r : BoReg) : (loadBoReg r s).cfg = s.cfg := rfl
@[simp] theorem loadBoReg_pend (r : BoReg) : (loadBoReg r s).pend = s.pend := rfl
@[simp] theorem loadBoReg_sc (r : BoReg) : (loadBoReg r s).sc = s.sc := rfl
@[simp] theorem loadBoReg_fcount (r : BoReg) : (loadBoReg r s).fcount = s.fcount := rfl
@[simp] theorem loadBoReg_skip (r : BoReg) : (loadBoReg r s).skip = s.skip := rfl
@[simp] theorem loadBoReg_evq (r : BoReg) : (loadBoReg r s).evq = s.evq := rfl
@[simp] theorem loadBoReg_errIllop (r : BoReg) : (loadBoReg r s).errIllop = s.errIllop := rfl
@[simp] theorem loadBoReg_errOvf (r : BoReg) : (loadBoReg r s).errOvf = s.errOvf := rfl
@[simp] theorem loadBoReg_boReg (r : BoReg) : (loadBoReg r s).boReg = if s.cfg.boPipe then r else s.boReg := rfl
@[simp] theorem loadBoReg_cmds (r : BoReg) : (loadBoReg r s).cmds = s.cmds := rfl
@[simp] theorem loadBoReg_stream (r : BoReg) : (loadBoReg r s).stream = s.stream := rfl
@[simp] theorem loadBoReg_rst (r : BoReg) : (loadBoReg r s).rst = s.rst := rfl
@[simp] theorem loadBoReg_crcPort (r : BoReg) : (loadBoReg r s).crcPort = s.crcPort := rfl
@[simp] theorem loadBoReg_resp (r : BoReg) : (loadBoReg r s).resp = s.resp := rfl
@[simp] theorem loadBoReg_draws (r : BoReg) : (loadBoReg r s).draws = s.draws := rfl
@[simp] theorem loadBoReg_turn (r : BoReg) : (loadBoReg r s).turn = s.turn := rfl

@[simp] theorem rejectCandidate_cfg (w : List Byte) (cur : Nat) (cause : RejectCause) : (rejectCandidate w cur cause s).cfg = s.cfg := rfl
@[simp] theorem rejectCandidate_pend (w : List Byte) (cur : Nat) (cause : RejectCause) : (rejectCandidate w cur cause s).pend = s.pend := rfl
@[simp] theorem rejectCandidate_sc (w : List Byte) (cur : Nat) (cause : RejectCause) : (rejectCandidate w cur cause s).sc = .scan w (cur + 1) := rfl
@[simp] theorem rejectCandidate_fcount (w : List Byte) (cur : Nat) (cause : RejectCause) : (rejectCandidate w cur cause s).fcount = if cause.counted then s.fcount + 1 else s.fcount := rfl
@[simp] theorem rejectCandidate_skip (w : List Byte) (cur : Nat) (cause : RejectCause) : (rejectCandidate w cur cause s).skip = s.skip := rfl
@[simp] theorem rejectCandidate_evq (w : List Byte) (cur : Nat) (cause : RejectCause) : (rejectCandidate w cur cause s).evq = s.evq := rfl
@[simp] theorem rejectCandidate_errIllop (w : List Byte) (cur : Nat) (cause : RejectCause) : (rejectCandidate w cur cause s).errIllop = s.errIllop := rfl
@[simp] theorem rejectCandidate_errOvf (w : List Byte) (cur : Nat) (cause : RejectCause) : (rejectCandidate w cur cause s).errOvf = s.errOvf := rfl
@[simp] theorem rejectCandidate_boReg (w : List Byte) (cur : Nat) (cause : RejectCause) : (rejectCandidate w cur cause s).boReg = s.boReg := rfl
@[simp] theorem rejectCandidate_cmds (w : List Byte) (cur : Nat) (cause : RejectCause) : (rejectCandidate w cur cause s).cmds = s.cmds := rfl
@[simp] theorem rejectCandidate_stream (w : List Byte) (cur : Nat) (cause : RejectCause) : (rejectCandidate w cur cause s).stream = s.stream := rfl
@[simp] theorem rejectCandidate_rst (w : List Byte) (cur : Nat) (cause : RejectCause) : (rejectCandidate w cur cause s).rst = s.rst := rfl
@[simp] theorem rejectCandidate_crcPort (w : List Byte) (cur : Nat) (cause : RejectCause) : (rejectCandidate w cur cause s).crcPort = s.crcPort := rfl
@[simp] theorem rejectCandidate_resp (w : List Byte) (cur : Nat) (cause : RejectCause) : (rejectCandidate w cur cause s).resp = s.resp := rfl
@[simp] theorem rejectCandidate_draws (w : List Byte) (cur : Nat) (cause : RejectCause) : (rejectCandidate w cur cause s).draws = s.draws := rfl
@[simp] theorem rejectCandidate_turn (w : List Byte) (cur : Nat) (cause : RejectCause) : (rejectCandidate w cur cause s).turn = s.turn := rfl

@[simp] theorem acceptFrame_cfg (w : List Byte) (cur : Nat) (ev : Event) : (acceptFrame w cur ev s).cfg = s.cfg := rfl
@[simp] theorem acceptFrame_pend (w : List Byte) (cur : Nat) (ev : Event) : (acceptFrame w cur ev s).pend = s.pend := rfl
@[simp] theorem acceptFrame_sc (w : List Byte) (cur : Nat) (ev : Event) : (acceptFrame w cur ev s).sc = .scan w (cur + ev.length.toNat) := rfl
@[simp] theorem acceptFrame_fcount (w : List Byte) (cur : Nat) (ev : Event) : (acceptFrame w cur ev s).fcount = s.fcount + 1 := rfl
@[simp] theorem acceptFrame_skip (w : List Byte) (cur : Nat) (ev : Event) : (acceptFrame w cur ev s).skip = s.skip := rfl
@[simp] theorem acceptFrame_evq (w : List Byte) (cur : Nat) (ev : Event) : (acceptFrame w cur ev s).evq = s.evq ++ [ev] := rfl
@[simp] theorem acceptFrame_errIllop (w : List Byte) (cur : Nat) (ev : Event) : (acceptFrame w cur ev s).errIllop = s.errIllop := rfl
@[simp] theorem acceptFrame_errOvf (w : List Byte) (cur : Nat) (ev : Event) : (acceptFrame w cur ev s).errOvf = s.errOvf := rfl
@[simp] theorem acceptFrame_boReg (w : List Byte) (cur : Nat) (ev : Event) : (acceptFrame w cur ev s).boReg = s.boReg := rfl
@[simp] theorem acceptFrame_cmds (w : List Byte) (cur : Nat) (ev : Event) : (acceptFrame w cur ev s).cmds = s.cmds := rfl
@[simp] theorem acceptFrame_stream (w : List Byte) (cur : Nat) (ev : Event) : (acceptFrame w cur ev s).stream = s.stream := rfl
@[simp] theorem acceptFrame_rst (w : List Byte) (cur : Nat) (ev : Event) : (acceptFrame w cur ev s).rst = s.rst := rfl
@[simp] theorem acceptFrame_crcPort (w : List Byte) (cur : Nat) (ev : Event) : (acceptFrame w cur ev s).crcPort = s.crcPort := rfl
@[simp] theorem acceptFrame_resp (w : List Byte) (cur : Nat) (ev : Event) : (acceptFrame w cur ev s).resp = s.resp := rfl
@[simp] theorem acceptFrame_draws (w : List Byte) (cur : Nat) (ev : Event) : (acceptFrame w cur ev s).draws = s.draws := rfl
@[simp] theorem acceptFrame_turn (w : List Byte) (cur : Nat) (ev : Event) : (acceptFrame w cur ev s).turn = s.turn := rfl

@[simp] theorem settle_cfg : (settle s).cfg = s.cfg := rfl
@[simp] theorem settle_pend : (settle s).pend = s.pend := rfl
@[simp] theorem settle_sc : (settle s).sc = s.sc := rfl
@[simp] theorem settle_fcount : (settle s).fcount = s.fcount := rfl
@[simp] theorem settle_skip : (settle s).skip = s.skip := rfl
@[simp] theorem settle_evq : (settle s).evq = s.evq := rfl
@[simp] theorem settle_errIllop : (settle s).errIllop = s.errIllop := rfl
@[simp] theorem settle_errOvf : (settle s).errOvf = s.errOvf := rfl
@[simp] theorem settle_boReg : (settle s).boReg = s.boReg := rfl
@[simp] theorem settle_cmds : (settle s).cmds = s.cmds := rfl
@[simp] theorem settle_stream : (settle s).stream = s.stream := rfl
@[simp] theorem settle_rst : (settle s).rst = s.rst := rfl
@[simp] theorem settle_crcPort : (settle s).crcPort = s.crcPort := rfl
@[simp] theorem settle_resp : (settle s).resp = s.resp := rfl
@[simp] theorem settle_draws : (settle s).draws = if !s.rst && contended s && decide (s.turn = none) then s.draws + 1 else s.draws := rfl
@[simp] theorem settle_turn : (settle s).turn = none := rfl

@[simp] theorem finishScan_cfg (w : List Byte) (cur : Nat) :
    (finishScan w cur s).cfg = s.cfg := by
  unfold finishScan; dsimp only; split <;> rfl
@[simp] theorem finishScan_pend (w : List Byte) (cur : Nat) :
    (finishScan w cur s).pend = if s.cfg.pendCap < (w.drop cur).length then [] else w.drop cur := by
  unfold finishScan; dsimp only; split <;> rfl
@[simp] theorem finishScan_sc (w : List Byte) (cur : Nat) :
    (finishScan w cur s).sc = .idle := by
  unfold finishScan; dsimp only; split <;> rfl
@[simp] theorem finishScan_fcount (w : List Byte) (cur : Nat) :
    (finishScan w cur s).fcount = s.fcount := by
  unfold finishScan; dsimp only; split <;> rfl
@[simp] theorem finishScan_skip (w : List Byte) (cur : Nat) :
    (finishScan w cur s).skip = s.skip := by
  unfold finishScan; dsimp only; split <;> rfl
@[simp] theorem finishScan_evq (w : List Byte) (cur : Nat) :
    (finishScan w cur s).evq = s.evq := by
  unfold finishScan; dsimp only; split <;> rfl
@[simp] theorem finishScan_errIllop (w : List Byte) (cur : Nat) :
    (finishScan w cur s).errIllop = s.errIllop := by
  unfold finishScan; dsimp only; split <;> rfl
@[simp] theorem finishScan_errOvf (w : List Byte) (cur : Nat) :
    (finishScan w cur s).errOvf = if s.cfg.pendCap < (w.drop cur).length then true else s.errOvf := by
  unfold finishScan; dsimp only; split <;> rfl
@[simp] theorem finishScan_boReg (w : List Byte) (cur : Nat) :
    (finishScan w cur s).boReg = s.boReg := by
  unfold finishScan; dsimp only; split <;> rfl
@[simp] theorem finishScan_cmds (w : List Byte) (cur : Nat) :
    (finishScan w cur s).cmds = s.cmds := by
  unfold finishScan; dsimp only; split <;> rfl
@[simp] theorem finishScan_stream (w : List Byte) (cur : Nat) :
    (finishScan w cur s).stream = s.stream := by
  unfold finishScan; dsimp only; split <;> rfl
@[simp] theorem finishScan_rst (w : List Byte) (cur : Nat) :
    (finishScan w cur s).rst = s.rst := by
  unfold finishScan; dsimp only; split <;> rfl
@[simp] theorem finishScan_crcPort (w : List Byte) (cur : Nat) :
    (finishScan w cur s).crcPort = s.crcPort := by
  unfold finishScan; dsimp only; split <;> rfl
@[simp] theorem finishScan_resp (w : List Byte) (cur : Nat) :
    (finishScan w cur s).resp = s.resp := by
  unfold finishScan; dsimp only; split <;> rfl
@[simp] theorem finishScan_draws (w : List Byte) (cur : Nat) :
    (finishScan w cur s).draws = s.draws := by
  unfold finishScan; dsimp only; split <;> rfl
@[simp] theorem finishScan_turn (w : List Byte) (cur : Nat) :
    (finishScan w cur s).turn = s.turn := by
  unfold finishScan; dsimp only; split <;> rfl

@[simp] theorem pushChunk_cfg (chunk : List Byte) :
    (pushChunk chunk s).cfg = s.cfg := by
  unfold pushChunk; dsimp only; split <;> rfl
@[simp] theorem pushChunk_pend (chunk : List Byte) :
    (pushChunk chunk s).pend = [] := by
  unfold pushChunk; dsimp only; split <;> rfl
@[simp] theorem pushChunk_sc (chunk : List Byte) :
    (pushChunk chunk s).sc = if workOverflow s.cfg (s.pend ++ chunk).length then .idle else .scan (s.pend ++ chunk) 0 := by
  unfold pushChunk; dsimp only; split <;> rfl
@[simp] theorem pushChunk_fcount (chunk : List Byte) :
    (pushChunk chunk s).fcount = s.fcount := by
  unfold pushChunk; dsimp only; split <;> rfl
@[simp] theorem pushChunk_skip (chunk : List Byte) :
    (pushChunk chunk s).skip = s.skip := by
  unfold pushChunk; dsimp only; split <;> rfl
@[simp] theorem pushChunk_evq (chunk : List Byte) :
    (pushChunk chunk s).evq = s.evq := by
  unfold pushChunk; dsimp only; split <;> rfl
@[simp] theorem pushChunk_errIllop (chunk : List Byte) :
    (pushChunk chunk s).errIllop = s.errIllop := by
  unfold pushChunk; dsimp only; split <;> rfl
@[simp] theorem pushChunk_errOvf (chunk : List Byte) :
    (pushChunk chunk s).errOvf = if workOverflow s.cfg (s.pend ++ chunk).length then true else s.errOvf := by
  unfold pushChunk; dsimp only; split <;> rfl
@[simp] theorem pushChunk_boReg (chunk : List Byte) :
    (pushChunk chunk s).boReg = s.boReg := by
  unfold pushChunk; dsimp only; split <;> rfl
@[simp] theorem pushChunk_cmds (chunk : List Byte) :
    (pushChunk chunk s).cmds = s.cmds := by
  unfold pushChunk; dsimp only; split <;> rfl
@[simp] theorem pushChunk_stream (chunk : List Byte) :
    (pushChunk chunk s).stream = s.stream := by
  unfold pushChunk; dsimp only; split <;> rfl
@[simp] theorem pushChunk_rst (chunk : List Byte) :
    (pushChunk chunk s).rst = s.rst := by
  unfold pushChunk; dsimp only; split <;> rfl
@[simp] theorem pushChunk_crcPort (chunk : List Byte) :
    (pushChunk chunk s).crcPort = s.crcPort := by
  unfold pushChunk; dsimp only; split <;> rfl
@[simp] theorem pushChunk_resp (chunk : List Byte) :
    (pushChunk chunk s).resp = s.resp := by
  unfold pushChunk; dsimp only; split <;> rfl
@[simp] theorem pushChunk_draws (chunk : List Byte) :
    (pushChunk chunk s).draws = s.draws := by
  unfold pushChunk; dsimp only; split <;> rfl
@[simp] theorem pushChunk_turn (chunk : List Byte) :
    (pushChunk chunk s).turn = s.turn := by
  unfold pushChunk; dsimp only; split <;> rfl

end

end Sys2Proof.Machine
end

