-- ==== Sys2Proof/Laws/Scan.lean ====
section
/-! SUPPORT. What the checks of one candidate and one scan step can do (43_reassembler.md R168), said once. -/

namespace Sys2Proof.Machine

/-- A verdict that accepts carries the id's category. -/
theorem flv_cat (r : RegistryIds) (id : Byte) (len : Half) (cfg : Byte) : (flv r id len cfg).cat = registry r id := by
  simp only [flv]
  split
  · rfl
  split
  · rfl
  split
  · simp only [checkFixed]; split <;> rfl
  · rename_i h1 h2 h3
    split
    · rename_i hd; simp only [checkData]; split <;> exact hd.symm
    · rename_i hd
      have : registry r id = .configResponse := by
        cases hc : registry r id <;> simp_all [fixedLen]
      simp only [checkConfig]
      split
      · exact this.symm
      split
      · exact this.symm
      split <;> exact this.symm

/-- What judging a complete candidate can answer. -/
theorem judgeFrame_cases (p : Params) (skip : Bool) (f : List Byte) (len computed : Half) :
    judgeFrame p skip f len computed = .reject .checksum ∧ computed ≠ frameTrailer f len.toNat ∧ skip = true
    ∨ (∃ r, judgeFrame p skip f len computed = .reject (.validator r)
        ∧ (flv p.ids (frameId f) len (frameCfg f)).ok = false)
    ∨ judgeFrame p skip f len computed
          = .accept (eventOf f len (computed != frameTrailer f len.toNat) (registry p.ids (frameId f)))
        ∧ (flv p.ids (frameId f) len (frameCfg f)).ok = true
        ∧ (skip = true → computed = frameTrailer f len.toNat) := by
  simp only [judgeFrame]
  split
  · rename_i h; left; simp_all
  · rename_i h
    split
    · rename_i hok
      right; right
      refine ⟨by rw [flv_cat], hok, fun hs => ?_⟩
      by_contra hne
      simp [hs, hne] at h
    · rename_i hok
      right; left
      exact ⟨_, rfl, by simpa using hok⟩

/-- What one iteration of the scan can decide, with the guard of each case. -/
theorem scanDecision_cases (p : Params) (skip : Bool) (w : List Byte) (cur : Nat) :
    scanDecision p skip w cur = .finish ∧ (w.length - cur < 2 ∨ w.length < cur + (u16be w cur).toNat)
    ∨ (∃ cause, scanDecision p skip w cur = .reject cause ∧ 2 ≤ w.length - cur
        ∧ cur + (u16be w cur).toNat ≤ w.length ∧ (cause.counted = false ↔ u16be w cur = 0))
    ∨ (∃ err, scanDecision p skip w cur
          = .accept (eventOf (slice w cur (cur + (u16be w cur).toNat)) (u16be w cur) err
              (registry p.ids (frameId (slice w cur (cur + (u16be w cur).toNat)))))
        ∧ minFrameLen ≤ (u16be w cur).toNat ∧ cur + (u16be w cur).toNat ≤ w.length
        ∧ (flv p.ids (frameId (slice w cur (cur + (u16be w cur).toNat))) (u16be w cur)
            (frameCfg (slice w cur (cur + (u16be w cur).toNat)))).ok = true
        ∧ (err = true ↔ crcTest p.crcSlice w cur (u16be w cur).toNat
            ≠ frameTrailer (slice w cur (cur + (u16be w cur).toNat)) (u16be w cur).toNat)
        ∧ (skip = true → err = false)) := by
  unfold scanDecision
  split
  · left; exact ⟨rfl, .inl ‹_›⟩
  dsimp only
  split
  · left; exact ⟨rfl, .inr ‹_›⟩
  rename_i h2 hL
  split
  · right; left
    rename_i h5
    refine ⟨_, rfl, by omega, by omega, ?_⟩
    have hz : (u16be w cur).toNat = 0 ↔ u16be w cur = 0 := by
      rw [← BitVec.toNat_inj]; simp
    split
    · rename_i h0; simp [RejectCause.counted, hz.mp h0]
    · rename_i h0; simpa [RejectCause.counted] using mt hz.mpr h0
  · rename_i h5
    have h5' : minFrameLen ≤ (u16be w cur).toNat := by omega
    have hne : u16be w cur ≠ 0 := by
      intro h; rw [h] at h5'; simp [minFrameLen] at h5'
    rcases judgeFrame_cases p skip (slice w cur (cur + (u16be w cur).toNat)) (u16be w cur)
      (crcTest p.crcSlice w cur (u16be w cur).toNat) with ⟨hj, -, -⟩ | ⟨r, hj, -⟩ | ⟨hj, hok, hs⟩
    · right; left; exact ⟨_, hj, by omega, by omega, by simpa [RejectCause.counted] using hne⟩
    · right; left; exact ⟨_, hj, by omega, by omega, by simpa [RejectCause.counted] using hne⟩
    · right; right
      refine ⟨_, hj, h5', by omega, hok, by simp, fun h => by simp [hs h]⟩

/-- What one scan step can do, with what decided it. -/
theorem scanStep_cases (s : State) :
    s.sc = .idle ∧ scanStep s = s
    ∨ ∃ w cur, s.sc = .scan w cur ∧
      (scanDecision s.cfg s.skip w cur = .finish ∧ scanStep s = finishScan w cur s
      ∨ (∃ cause, scanDecision s.cfg s.skip w cur = .reject cause ∧ scanStep s = rejectCandidate w cur cause s)
      ∨ (∃ ev, scanDecision s.cfg s.skip w cur = .accept ev ∧ s.evqFull = true ∧ scanStep s = s)
      ∨ (∃ ev, scanDecision s.cfg s.skip w cur = .accept ev ∧ s.evqFull = false
          ∧ scanStep s = acceptFrame w cur ev s)) := by
  cases hsc : s.sc with
  | idle => left; simp [scanStep, hsc]
  | scan w cur =>
    right
    refine ⟨w, cur, rfl, ?_⟩
    cases hd : scanDecision s.cfg s.skip w cur with
    | finish => left; simp [scanStep, hsc, hd]
    | reject cause => right; left; exact ⟨cause, rfl, by simp [scanStep, hsc, hd]⟩
    | accept ev =>
      cases hf : s.evqFull with
      | true => right; right; left; exact ⟨ev, rfl, rfl, by simp [scanStep, hsc, hd, hf]⟩
      | false => right; right; right; exact ⟨ev, rfl, rfl, by simp [scanStep, hsc, hd, hf]⟩

/-- What one scan step leaves alone, and how far it can change the rest (R166). -/
theorem scanStep_frame (s : State) :
    (scanStep s).cfg = s.cfg ∧ (scanStep s).skip = s.skip ∧ (scanStep s).errIllop = s.errIllop
    ∧ (scanStep s).boReg = s.boReg ∧ (scanStep s).cmds = s.cmds ∧ (scanStep s).stream = s.stream
    ∧ (scanStep s).rst = s.rst ∧ (scanStep s).crcPort = s.crcPort ∧ (scanStep s).resp = s.resp
    ∧ (s.errOvf = true → (scanStep s).errOvf = true)
    ∧ ((scanStep s).evq = s.evq ∨ ∃ ev, (scanStep s).evq = s.evq ++ [ev])
    ∧ ((scanStep s).fcount = s.fcount ∨ (scanStep s).fcount = s.fcount + 1)
    ∧ ((scanStep s).pend = s.pend ∨ (scanStep s).sc = .idle) := by
  rcases scanStep_cases s with ⟨-, e⟩ | ⟨w, cur, hsc, h'⟩
  · simp [e]
  rcases h' with ⟨hd, e'⟩ | ⟨cause, hd, e'⟩ | ⟨ev, hd, hf, e'⟩ | ⟨ev, hd, hf, e'⟩
  · simp [e']; intro h; simp [h]
  · simp [e']
  · simp [e']
  · simp [e']

/-- When the scanner is held (R171). -/
theorem scanHeld_iff (s : State) :
    scanHeld s = true ↔
      ∃ w cur ev, s.sc = .scan w cur ∧ scanDecision s.cfg s.skip w cur = .accept ev ∧ s.evqFull = true := by
  unfold scanHeld
  cases hsc : s.sc with
  | idle => simp
  | scan w cur =>
    cases hd : scanDecision s.cfg s.skip w cur with
    | finish => simp [hd]
    | reject cause => simp [hd]
    | accept ev => simp [hd]

theorem busy_iff (s : State) : s.busy = true ↔ ∃ w cur, s.sc = .scan w cur := by
  unfold State.busy
  cases s.sc <;> simp

theorem not_busy_iff (s : State) : s.busy = false ↔ s.sc = .idle := by
  unfold State.busy
  cases s.sc <;> simp

end Sys2Proof.Machine
end

