-- ==== Sys2Proof/Laws/Chunk.lean ====
section
/-! SUPPORT. One turn of the chunk-level summary (43_reassembler.md R173) through the decision of the scan step (R168). -/

namespace Sys2Proof.Machine

/-- A turn of R173's `Loop`, by what one iteration of the scan decides at the cursor. -/
theorem chunkLoop_succ (p : Params) (skip : Bool) (w : List Byte) (n cur : Nat) (k : Word) (e : List Event) :
  chunkLoop p skip w (n+1) cur k e = match scanDecision p skip w cur with
   | .finish => ⟨slice w cur w.length, k, e⟩
   | .reject c => chunkLoop p skip w n (cur+1) (if c.counted then k+1 else k) e
   | .accept ev => chunkLoop p skip w n (cur+ev.length.toNat) (k+1) (e ++ [ev]) := by
  conv_lhs => unfold chunkLoop
  unfold scanDecision
  split
  · rename_i h
    by_cases h2 : w.length - cur < 2
    · simp only [h2, if_true]
    · have h : w.length < cur + (u16be w cur).toNat := h.resolve_left h2
      simp only [h2, if_false, h, if_true]
  · rename_i h
    have h2 : ¬ (w.length - cur < 2) := fun x => h (.inl x)
    have h3 : ¬ (w.length < cur + (u16be w cur).toNat) := fun x => h (.inr x)
    have hz : (u16be w cur).toNat = 0 ↔ u16be w cur = 0 := by
      rw [← BitVec.toNat_inj]; simp
    simp only [h2, if_false, h3]
    by_cases h5 : (u16be w cur).toNat < 5
    · simp only [h5, if_true]
      by_cases h0 : u16be w cur = 0
      · simp [h0, RejectCause.counted]
      · have := hz.not.mpr h0
        simp only [this, if_false, RejectCause.counted, if_true, ne_eq, h0, not_false_eq_true]
    · have h0 : u16be w cur ≠ 0 := by intro h; rw [h] at h5; simp at h5
      rw [if_neg h5, if_neg (show ¬(u16be w cur).toNat < minFrameLen from h5), if_pos h0]
      rcases judgeFrame_cases p skip (slice w cur (cur + (u16be w cur).toNat)) (u16be w cur) (crcTest p.crcSlice w cur (u16be w cur).toNat) with ⟨hj, hne, hs⟩ | ⟨r, hj, hok⟩ | ⟨hj, hok, hs⟩
      · rw [hj, if_pos (by simp only [frameTrailer] at hne; simp [hne, hs])]; rfl
      · simp only [frameId, frameCfg] at hok
        rw [hj, if_pos hok]
        split <;> rfl
      · rw [hj, if_neg (by
          simp only [frameTrailer] at hs; cases skip
          · simp
          · simp [hs rfl]), if_neg (by simp only [frameId, frameCfg] at hok; simp [hok]), flv_cat]
        rfl

/-- An accepted candidate has at least 5 bytes and ends inside `W`. -/
theorem scanDecision_accept_bounds {p : Params} {skip : Bool} {w : List Byte} {cur : Nat} {ev : Event}
    (h : scanDecision p skip w cur = .accept ev) : 5 ≤ ev.length.toNat ∧ cur + ev.length.toNat ≤ w.length := by
  rcases scanDecision_cases p skip w cur with ⟨h2, -⟩ | ⟨_, h2, -⟩ | ⟨err, h2, h5, hL, -⟩
  · simp [h2] at h
  · simp [h2] at h
  · rw [h2] at h; injection h with h; subst h; exact ⟨h5, hL⟩

/-- A rejected candidate leaves room for the advance by one. -/
theorem scanDecision_reject_bounds {p : Params} {skip : Bool} {w : List Byte} {cur : Nat} {c : RejectCause}
    (h : scanDecision p skip w cur = .reject c) : cur + 2 ≤ w.length := by
  rcases scanDecision_cases p skip w cur with ⟨h2, -⟩ | ⟨_, h2, h3, -⟩ | ⟨err, h2, -⟩
  · simp [h2] at h
  · omega
  · simp [h2] at h

end Sys2Proof.Machine
end

