-- ==== Sys2Proof/Laws/PerInstr.lean ====
section
/-! SUPPORT. Statements about every command as syntax, one lemma a constructor. `OpMap`: the op byte the encoder writes
is the one spec/opcode_table.json's row of the command gives (its `match` under its `mask`). -/

namespace Sys2Proof.Laws.OpMap

/-- The `mask` of the command's row in spec/opcode_table.json. -/
def rowMask : Instr → Byte
  | .crcFold _ _ => 0xF8#8
  | .boPack16Be _ => 0xFF#8
  | .boPack16Le _ => 0xFF#8
  | .boPackF32Be _ => 0xFF#8
  | .boPackF32Le _ => 0xFF#8
  | .boUnpack16Be _ _ => 0xFF#8
  | .boUnpack16Le _ _ => 0xFF#8
  | .boUnpackF32Be _ _ _ _ => 0xFF#8
  | .boUnpackF32Le _ _ _ _ => 0xFF#8
  | .flvCheck _ _ _ => 0xFF#8
  | .raPush _ => 0xFF#8
  | .raSetpol _ => 0xFF#8
  | .raStatus => 0xFF#8
  | .raCount => 0xFF#8
  | .raPendlen => 0xFF#8
  | .raClear => 0xFF#8
  | .raEvpop => 0xFF#8

/-- The `match` of the command's row in spec/opcode_table.json. -/
def rowMatch : Instr → Byte
  | .crcFold _ _ => 0x00#8
  | .boPack16Be _ => 0x40#8
  | .boPack16Le _ => 0x41#8
  | .boPackF32Be _ => 0x42#8
  | .boPackF32Le _ => 0x43#8
  | .boUnpack16Be _ _ => 0x44#8
  | .boUnpack16Le _ _ => 0x45#8
  | .boUnpackF32Be _ _ _ _ => 0x46#8
  | .boUnpackF32Le _ _ _ _ => 0x47#8
  | .flvCheck _ _ _ => 0x80#8
  | .raPush _ => 0xC0#8
  | .raSetpol _ => 0xC1#8
  | .raStatus => 0xC2#8
  | .raCount => 0xC3#8
  | .raPendlen => 0xC4#8
  | .raClear => 0xC5#8
  | .raEvpop => 0xC6#8

/-- A well-formed command's op byte matches its row. -/
def Statement (i : Instr) : Prop :=
  ∀ p : Params, WellFormed p i = true → (encode i).op &&& rowMask i = rowMatch i

theorem crcFold (crcIn : Half) (d : List Byte) : Statement (.crcFold crcIn d) := by
  intro p h
  simp only [WellFormed, Bool.and_eq_true, decide_eq_true_eq] at h
  have hlt : d.length - 1 < 8 := by omega
  have all : ∀ n < 8, BitVec.ofNat 8 n &&& 0xF8#8 = 0x00#8 := by decide
  exact all _ hlt

theorem boPack16Be (v : Half) : Statement (.boPack16Be v) := fun _ _ =>
  (by decide : 0x40#8 &&& 0xFF#8 = 0x40#8)
theorem boPack16Le (v : Half) : Statement (.boPack16Le v) := fun _ _ =>
  (by decide : 0x41#8 &&& 0xFF#8 = 0x41#8)
theorem boPackF32Be (v : Word) : Statement (.boPackF32Be v) := fun _ _ =>
  (by decide : 0x42#8 &&& 0xFF#8 = 0x42#8)
theorem boPackF32Le (v : Word) : Statement (.boPackF32Le v) := fun _ _ =>
  (by decide : 0x43#8 &&& 0xFF#8 = 0x43#8)
theorem boUnpack16Be (b0 b1 : Byte) : Statement (.boUnpack16Be b0 b1) := fun _ _ =>
  (by decide : 0x44#8 &&& 0xFF#8 = 0x44#8)
theorem boUnpack16Le (b0 b1 : Byte) : Statement (.boUnpack16Le b0 b1) := fun _ _ =>
  (by decide : 0x45#8 &&& 0xFF#8 = 0x45#8)
theorem boUnpackF32Be (b0 b1 b2 b3 : Byte) : Statement (.boUnpackF32Be b0 b1 b2 b3) := fun _ _ =>
  (by decide : 0x46#8 &&& 0xFF#8 = 0x46#8)
theorem boUnpackF32Le (b0 b1 b2 b3 : Byte) : Statement (.boUnpackF32Le b0 b1 b2 b3) := fun _ _ =>
  (by decide : 0x47#8 &&& 0xFF#8 = 0x47#8)
theorem flvCheck (id : Byte) (len : Half) (cfg : Byte) : Statement (.flvCheck id len cfg) := fun _ _ =>
  (by decide : 0x80#8 &&& 0xFF#8 = 0x80#8)
theorem raPush (n : Word) : Statement (.raPush n) := fun _ _ =>
  (by decide : 0xC0#8 &&& 0xFF#8 = 0xC0#8)
theorem raSetpol (skip : Bool) : Statement (.raSetpol skip) := fun _ _ =>
  (by decide : 0xC1#8 &&& 0xFF#8 = 0xC1#8)
theorem raStatus : Statement .raStatus := fun _ _ =>
  (by decide : 0xC2#8 &&& 0xFF#8 = 0xC2#8)
theorem raCount : Statement .raCount := fun _ _ =>
  (by decide : 0xC3#8 &&& 0xFF#8 = 0xC3#8)
theorem raPendlen : Statement .raPendlen := fun _ _ =>
  (by decide : 0xC4#8 &&& 0xFF#8 = 0xC4#8)
theorem raClear : Statement .raClear := fun _ _ =>
  (by decide : 0xC5#8 &&& 0xFF#8 = 0xC5#8)
theorem raEvpop : Statement .raEvpop := fun _ _ =>
  (by decide : 0xC6#8 &&& 0xFF#8 = 0xC6#8)

end Sys2Proof.Laws.OpMap
end

