-- ==== Sys2Proof/Laws/Step.lean ====
section
/-! SUPPORT. What one step can do (20_memory.md R46): the moves, the meanings' answers and the bookkeeping, said once. -/

namespace Sys2Proof.Machine

/-- The bookkeeping touches the model's own fields alone. -/
theorem settle_eq (s : State) : ∃ n, settle s = { s with turn := none, draws := n } := ⟨_, rfl⟩

@[simp] theorem settle_busy (s : State) : (settle s).busy = s.busy := rfl

@[simp] theorem settle_evqFull (s : State) : (settle s).evqFull = s.evqFull := rfl

/-- The inversion of a step: one case a move. -/
theorem step_cases {s t : State} (h : step s = .next t) :
    nextMove s = .reset ∧ t = resetBlock (settle s)
    ∨ nextMove s = .idle ∧ t = settle s
    ∨ nextMove s = .scan ∧ t = scanStep (settle s)
    ∨ (∃ i, nextMove s = .command i ∧ exec i (settle s) = .next t)
    ∨ nextMove s = .reserved ∧ t = takeReserved (settle s) := by
  unfold step at h
  split at h <;> simp_all

/-- What the command on the port can move. -/
theorem hostMove_cases (s : State) :
    hostMove s = .idle ∧ s.cmds = []
    ∨ (∃ c rest i, s.cmds = c :: rest ∧ decode s.cfg c = .ok i ∧ hostMove s = .command i)
    ∨ (∃ c rest e, s.cmds = c :: rest ∧ decode s.cfg c = .error e ∧ hostMove s = .reserved) := by
  unfold hostMove
  cases hc : s.cmds with
  | nil => simp
  | cons c rest => cases hd : decode s.cfg c <;> simp [hd]

/-- When each move is made. -/
theorem nextMove_cases (s : State) :
    s.rst = true ∧ nextMove s = .reset
    ∨ s.rst = false ∧ scanReady s = true ∧ (hostReady s = false ∨ hostFirst s = false) ∧ nextMove s = .scan
    ∨ s.rst = false ∧ (scanReady s = false ∨ hostReady s = true ∧ hostFirst s = true)
        ∧ nextMove s = hostMove s := by
  unfold nextMove
  cases s.rst <;> cases scanReady s <;> cases hostReady s <;> cases hostFirst s <;> simp

/-- A BO command always completes, with its network's output. -/
theorem runBo_eq (r : BoReg) (s : State) :
    runBo r s = .next (complete ⟨r.res, [], some (boEarly r s)⟩ (loadBoReg r s)) := rfl

/-- A register read: exact in `SC = Idle`, a counted draw while BUSY. -/
theorem readWord_cases (v : Word) (s : State) :
    s.busy = false ∧ readWord v s = .next (complete (plainReply (v.setWidth 64)) s)
    ∨ s.busy = true ∧ readWord v s
        = .next (complete (plainReply ((Config.freeWord s.draws).setWidth 64)) (drawn s)) := by
  unfold readWord
  cases s.busy <;> simp

/-- `RA.PUSH` waits or takes its chunk. -/
theorem execRaPush_cases (n : Word) (s : State) :
    pushHolds n.toNat s = true ∧ execRaPush n s = .next s
    ∨ s.busy = false ∧ n.toNat ≤ s.stream.length ∧ execRaPush n s
        = .next (complete (plainReply 0)
            (pushChunk (s.stream.take n.toNat) { s with stream := s.stream.drop n.toNat })) := by
  unfold execRaPush
  cases h : pushHolds n.toNat s with
  | true => simp
  | false =>
    right
    simp only [pushHolds, Bool.or_eq_false_iff, decide_eq_false_iff_not, Nat.not_lt] at h
    exact ⟨h.1, h.2, by simp⟩

/-- `RA.SETPOL` holds or writes the policy. -/
theorem execRaSetpol_cases (b : Bool) (s : State) :
    s.busy = true ∧ execRaSetpol b s = .next s
    ∨ s.busy = false ∧ execRaSetpol b s = .next (complete (plainReply 0) { s with skip := b }) := by
  unfold execRaSetpol
  cases s.busy <;> simp

/-- `RA.CLEAR` holds or re-creates the decoder. -/
theorem execRaClear_cases (s : State) :
    s.busy = true ∧ execRaClear s = .next s
    ∨ s.busy = false ∧ execRaClear s = .next (complete (plainReply 0) (clearDecoder s)) := by
  unfold execRaClear
  cases s.busy <;> simp

/-- `RA.EVPOP` finds no event or takes the oldest. -/
theorem execRaEvpop_cases (s : State) :
    s.evq = [] ∧ execRaEvpop s = .next (complete (plainReply 0) s)
    ∨ ∃ ev evs, s.evq = ev :: evs
        ∧ execRaEvpop s = .next (complete ⟨eventHeader ev, ev.bytes, none⟩ (dropEvent s)) := by
  unfold execRaEvpop
  cases s.evq <;> simp

/-- `CRC.FOLD` answers the fold, or is a reserved command. -/
theorem execCrcFold_cases (c : Half) (d : List Byte) (s : State) :
    WellFormed s.cfg (.crcFold c d) = true
      ∧ execCrcFold c d s = .next (complete (directReply ((crcFrom c d).setWidth 64)) s)
    ∨ WellFormed s.cfg (.crcFold c d) = false ∧ execCrcFold c d s = .next (takeReserved s) := by
  unfold execCrcFold
  cases h : WellFormed s.cfg (.crcFold c d) <;> simp

/-- What any command's meaning can do to the state: wait, reply and change nothing else, load `BO_REG`, draw, start
a scan, write the policy, clear, take an event, or be reserved. -/
theorem exec_cases {i : Instr} {s t : State} (h : exec i s = .next t) :
    t = s
    ∨ (∃ r, t = complete r s)
    ∨ (∃ r b, t = complete r (loadBoReg b s))
    ∨ (∃ r, (i = .raCount ∨ i = .raPendlen) ∧ s.busy = true ∧ t = complete r (drawn s))
    ∨ (∃ n, i = .raPush n ∧ s.busy = false ∧ t = complete (plainReply 0)
        (pushChunk (s.stream.take n.toNat) { s with stream := s.stream.drop n.toNat }))
    ∨ (∃ b, i = .raSetpol b ∧ s.busy = false ∧ t = complete (plainReply 0) { s with skip := b })
    ∨ i = .raClear ∧ s.busy = false ∧ t = complete (plainReply 0) (clearDecoder s)
    ∨ (∃ ev evs, i = .raEvpop ∧ s.evq = ev :: evs ∧ t = complete ⟨eventHeader ev, ev.bytes, none⟩ (dropEvent s))
    ∨ (∃ c d, i = .crcFold c d ∧ WellFormed s.cfg i = false ∧ t = takeReserved s) := by
  have bo : ∀ b, runBo b s = .next t → ∃ r b', t = complete r (loadBoReg b' s) := by
    intro b hb; rw [runBo_eq] at hb; exact ⟨_, _, (Host.Outcome.next.inj hb).symm⟩
  cases i with
  | crcFold c d =>
    rcases execCrcFold_cases c d s with ⟨-, e⟩ | ⟨hw, e⟩
    · right; left; exact ⟨_, (Host.Outcome.next.inj (e.symm.trans h)).symm⟩
    · iterate 8 right
      exact ⟨c, d, rfl, hw, (Host.Outcome.next.inj (e.symm.trans h)).symm⟩
  | boPack16Be v => right; right; left; exact bo _ h
  | boPack16Le v => right; right; left; exact bo _ h
  | boPackF32Be v => right; right; left; exact bo _ h
  | boPackF32Le v => right; right; left; exact bo _ h
  | boUnpack16Be b0 b1 => right; right; left; exact bo _ h
  | boUnpack16Le b0 b1 => right; right; left; exact bo _ h
  | boUnpackF32Be b0 b1 b2 b3 => right; right; left; exact bo _ h
  | boUnpackF32Le b0 b1 b2 b3 => right; right; left; exact bo _ h
  | flvCheck id len cfg => right; left; exact ⟨_, (Host.Outcome.next.inj h).symm⟩
  | raPush n =>
    rcases execRaPush_cases n s with ⟨-, e⟩ | ⟨hb, -, e⟩
    · left; exact (Host.Outcome.next.inj (e.symm.trans h)).symm
    · iterate 4 right
      left; exact ⟨n, rfl, hb, (Host.Outcome.next.inj (e.symm.trans h)).symm⟩
  | raSetpol b =>
    rcases execRaSetpol_cases b s with ⟨-, e⟩ | ⟨hb, e⟩
    · left; exact (Host.Outcome.next.inj (e.symm.trans h)).symm
    · iterate 5 right
      left; exact ⟨b, rfl, hb, (Host.Outcome.next.inj (e.symm.trans h)).symm⟩
  | raStatus => right; left; exact ⟨_, (Host.Outcome.next.inj h).symm⟩
  | raCount =>
    rcases readWord_cases s.count s with ⟨-, e⟩ | ⟨hb, e⟩
    · right; left; exact ⟨_, (Host.Outcome.next.inj (e.symm.trans h)).symm⟩
    · right; right; right; left
      exact ⟨_, .inl rfl, hb, (Host.Outcome.next.inj (e.symm.trans h)).symm⟩
  | raPendlen =>
    rcases readWord_cases s.pendLen s with ⟨-, e⟩ | ⟨hb, e⟩
    · right; left; exact ⟨_, (Host.Outcome.next.inj (e.symm.trans h)).symm⟩
    · right; right; right; left
      exact ⟨_, .inr rfl, hb, (Host.Outcome.next.inj (e.symm.trans h)).symm⟩
  | raClear =>
    rcases execRaClear_cases s with ⟨-, e⟩ | ⟨hb, e⟩
    · left; exact (Host.Outcome.next.inj (e.symm.trans h)).symm
    · iterate 6 right
      left; exact ⟨rfl, hb, (Host.Outcome.next.inj (e.symm.trans h)).symm⟩
  | raEvpop =>
    rcases execRaEvpop_cases s with ⟨-, e⟩ | ⟨ev, evs, hq, e⟩
    · right; left; exact ⟨_, (Host.Outcome.next.inj (e.symm.trans h)).symm⟩
    · iterate 7 right
      left; exact ⟨ev, evs, rfl, hq, (Host.Outcome.next.inj (e.symm.trans h)).symm⟩

end Sys2Proof.Machine
end

