-- ==== Sys2Proof/Tests/Slice0.lean ====
section
/-! SUPPORT. Small tests; their expected values are spec/95_test_vectors.md's (the vector named beside each) or the rule's
own example. After them, one witness for every statement with hypotheses. -/

namespace Sys2Proof.Tests

open Sys2Proof Sys2Proof.Machine

set_option Elab.async false

/-! ### Frames and states of 95_test_vectors.md -/

/-- `TRAX`. -/
def trax : List Byte :=
  [0x00, 0x0D, 0x02, 0x54, 0x52, 0x41, 0x58, 0x50, 0x37, 0x33, 0x34, 0x2B, 0x91]

/-- `BAD`. -/
def bad : List Byte :=
  [0x00, 0x0D, 0x02, 0x54, 0x52, 0x41, 0x58, 0x50, 0x37, 0x33, 0x34, 0x2B, 0x92]

/-- `SCD`. -/
def scd : List Byte := [0x00, 0x05, 0x13, 0xDD, 0xA7]

/-- The event behind header H1. -/
def traxEvent : Event := ⟨0x02, 13, 0x2B91, false, .moduleInfoResp, trax⟩

/-- Header H1. -/
def h1 : DWord := 0x0000045722001A05

def build (f : Params → Params) : Params := f Params.default

def unroll4 : Params := build fun p => { p with crcUnroll := 4 }

def piped : Params := build fun p => { p with boPipe := true }

def shallow : Params := build fun p => { p with evqDepth := 1 }

/-- LV7's build. -/
def capped : Params := build fun p => { p with crcSlice := .bufferEnd, workCap := some 8 }

/-- RV23's build. -/
def pend4 : Params := build fun p => { p with pendCap := 4 }

/-- A scan at a cursor, from reset. -/
def scanAt (p : Params) (w : List Byte) (cur : Nat) : State := { State.resetWith p with sc := .scan w cur }

/-- Reset with bytes on the chunk stream. -/
def streaming (p : Params) (bs : List Byte) : State := supplyChunk bs (State.resetWith p)

/-- Reset with one command on the port. -/
def issuing (p : Params) (c : Command) : State := issueCommand c (State.resetWith p)

/-- P4's hold: the second `TRAX` waits on the full FIFO. -/
def held : State := { scanAt shallow (trax ++ trax) 13 with evq := [traxEvent], fcount := 1 }

def stateOf : Host.Outcome State Fault Refusal → Option State
  | .next t => some t
  | .fault _ => none
  | .refused _ => none

/-- A command's `res` and `dout`. -/
def answer (i : Instr) (s : State) : Option (DWord × List Byte) :=
  ((stateOf (exec i s)).bind State.resp).map fun r => (r.res, r.dout)

/-- A field of the state after a command. -/
def after {α : Type} (f : State → α) (i : Instr) (s : State) : Option α := (stateOf (exec i s)).map f

theorem step_of_stateOf {s t : State} (h : stateOf (step s) = some t) : step s = .next t := by
  cases hs : step s <;> simp_all [stateOf]

/-- A step whose outcome is a next state with the property `P`. -/
theorem step_next {s : State} {P : State → Prop} [DecidablePred P]
    (h : (stateOf (step s)).any (fun t => decide (P t)) = true) : ∃ t, step s = .next t ∧ P t := by
  cases ht : stateOf (step s) with
  | none => simp [ht] at h
  | some t => exact ⟨t, step_of_stateOf ht, by simpa [ht] using h⟩

/-! ### WellFormed -/

theorem test_wf_refuses_empty_fold : WellFormed Params.default (.crcFold 0 []) = false := by decide

theorem test_wf_refuses_nine_bytes :
    WellFormed (build fun p => { p with crcUnroll := 9 }) (.crcFold 0 [0, 1, 2, 3, 4, 5, 6, 7, 8]) = false := by
  decide

theorem test_wf_refuses_past_unroll : WellFormed unroll4 (.crcFold 0 [0, 1, 2, 3, 4]) = false := by decide

theorem test_wf_accepts : WellFormed unroll4 (.crcFold 0 [0, 1, 2, 3]) = true
    ∧ WellFormed Params.default (.crcFold 0 [0, 1, 2, 3, 4, 5, 6, 7]) = true
    ∧ WellFormed Params.default (.raPush 0xFFFFFFFF#32) = true := by decide

/-! ### Decoding: words written out from the format tables of 30_encoding.md §2

Each op byte is `unit:func` (R61): `00 000 kkk` (R62), `01 000 d t e` (R63), `10 000000` (R65), `11 000xxx` (R66). -/

theorem test_decode_crc_fold :
    decode Params.default ⟨0b00000001#8, 0xABCD1234#32, 0xFFFFFFFFFFFF0201#64⟩
      = .ok (.crcFold 0x1234#16 [0x01#8, 0x02#8]) := by decide

theorem test_decode_pack16_be :
    decode Params.default ⟨0b01000000#8, 0xFFFF1234#32, 0#64⟩ = .ok (.boPack16Be 0x1234#16) := by decide

theorem test_decode_pack16_le :
    decode Params.default ⟨0b01000001#8, 0xFFFF1234#32, 0#64⟩ = .ok (.boPack16Le 0x1234#16) := by decide

theorem test_decode_packf32_be :
    decode Params.default ⟨0b01000010#8, 0x41480000#32, 0#64⟩ = .ok (.boPackF32Be 0x41480000#32) := by decide

theorem test_decode_packf32_le :
    decode Params.default ⟨0b01000011#8, 0x41480000#32, 0#64⟩ = .ok (.boPackF32Le 0x41480000#32) := by decide

theorem test_decode_unpack16_be :
    decode Params.default ⟨0b01000100#8, 0#32, 0xAAAAAAAAAAAA0D00#64⟩ = .ok (.boUnpack16Be 0x00#8 0x0D#8) := by
  decide

theorem test_decode_unpack16_le :
    decode Params.default ⟨0b01000101#8, 0#32, 0x0000000000001234#64⟩ = .ok (.boUnpack16Le 0x34#8 0x12#8) := by
  decide

theorem test_decode_unpackf32_be :
    decode Params.default ⟨0b01000110#8, 0#32, 0x8877665544332211#64⟩
      = .ok (.boUnpackF32Be 0x11#8 0x22#8 0x33#8 0x44#8) := by decide

theorem test_decode_unpackf32_le :
    decode Params.default ⟨0b01000111#8, 0#32, 0x8877665544332211#64⟩
      = .ok (.boUnpackF32Le 0x11#8 0x22#8 0x33#8 0x44#8) := by decide

theorem test_decode_flv_check :
    decode Params.default ⟨0b10000000#8, 0x54123402#32, 0#64⟩ = .ok (.flvCheck 0x02#8 0x1234#16 0x54#8) := by
  decide

theorem test_decode_ra_push :
    decode Params.default ⟨0b11000000#8, 0x8000000D#32, 0#64⟩ = .ok (.raPush 0x8000000D#32) := by decide

theorem test_decode_ra_setpol :
    decode Params.default ⟨0b11000001#8, 0xFFFFFFFE#32, 0#64⟩ = .ok (.raSetpol false)
    ∧ decode Params.default ⟨0b11000001#8, 0x00000001#32, 0#64⟩ = .ok (.raSetpol true) := by decide

theorem test_decode_ra_status :
    decode Params.default ⟨0b11000010#8, 0#32, 0#64⟩ = .ok .raStatus := by decide

theorem test_decode_ra_count :
    decode Params.default ⟨0b11000011#8, 0#32, 0#64⟩ = .ok .raCount := by decide

theorem test_decode_ra_pendlen :
    decode Params.default ⟨0b11000100#8, 0#32, 0#64⟩ = .ok .raPendlen := by decide

theorem test_decode_ra_clear :
    decode Params.default ⟨0b11000101#8, 0#32, 0#64⟩ = .ok .raClear := by decide

theorem test_decode_ra_evpop :
    decode Params.default ⟨0b11000110#8, 0#32, 0#64⟩ = .ok .raEvpop := by decide

/-- R78's gaps at their edges, and CV27's code. -/
theorem test_decode_rejects_by_name :
    decode Params.default ⟨0x08#8, 0, 0⟩ = .error (.reservedOp 0x08#8)
    ∧ decode Params.default ⟨0x3F#8, 0, 0⟩ = .error (.reservedOp 0x3F#8)
    ∧ decode Params.default ⟨0x48#8, 0, 0⟩ = .error (.reservedOp 0x48#8)
    ∧ decode Params.default ⟨0x7F#8, 0, 0⟩ = .error (.reservedOp 0x7F#8)
    ∧ decode Params.default ⟨0x81#8, 0, 0⟩ = .error (.reservedOp 0x81#8)
    ∧ decode Params.default ⟨0xBF#8, 0, 0⟩ = .error (.reservedOp 0xBF#8)
    ∧ decode Params.default ⟨0xC7#8, 0, 0⟩ = .error (.reservedOp 0xC7#8)
    ∧ decode Params.default ⟨0xFF#8, 0, 0⟩ = .error (.reservedOp 0xFF#8)
    ∧ decode unroll4 ⟨0x04#8, 0, 0⟩ = .error (.foldTooLong 5) := by decide

/-- The encoder against BV15's and FV1's words, written there as `op`, `arg`, `din`. -/
theorem test_encode_words :
    encode (.boUnpackF32Be 0x41 0x48 0x00 0x00) = ⟨0x46#8, 0, 0x0000000000004841#64⟩
    ∧ encode (.flvCheck 0x02 13 0x54) = ⟨0x80#8, 0x54000D02#32, 0⟩
    ∧ encode (.crcFold 0x9253 [0x37, 0x33, 0x34]) = ⟨0x02#8, 0x00009253#32, 0x343337#64⟩ := by decide

/-- The opcode table's numbering: op in bits 7 to 0. Too few bytes are no transaction. -/
theorem test_table_word :
    decodeTableWord 8 0xC6 = some .raEvpop ∧ decodeTableWord 8 0x08 = none
    ∧ decodeTableWord 40 0x0000000DC0 = some (.raPush 13#32)
    ∧ decodeBytes Params.default [0xC6#8] = .error .truncated := by decide

/-! ### CRC16 -/

/-- CV1, CV4, CV6, CV7 and CV13 to CV17. -/
theorem test_crc_values :
    crc16 [] = 0x0000#16 ∧ crc16 [0x01] = 0x1021#16 ∧ crc16 [0xFF] = 0x1EF0#16 ∧ crc16 [0x12, 0x34] = 0x13C6#16
    ∧ crcStep 0x1234 0x56 = 0x3C40#16 ∧ crcStep 0xFFFF 0xFF = 0xFF00#16 ∧ crcStep 0xFFFF 0x00 = 0xE1F0#16
    ∧ crcStep 0x0001 0x00 = 0x0100#16 ∧ crcStep 0x8000 0x00 = 0x9188#16 := by decide +kernel

/-- CV24: a register no frame starts from. -/
theorem test_crc_fold : answer (.crcFold 0xFFFF [0x00, 0x05, 0x01]) State.reset = some (0x2348#64, []) := by
  decide +kernel

/-- CV27 through a step: `op = 0x04` with CRC_UNROLL = 4 sets ERR_ILLOP and answers 0. -/
theorem test_crc_fold_reserved :
    (afterStep (issuing unroll4 ⟨0x04#8, 0, 0⟩)).errIllop = true
    ∧ (afterStep (issuing unroll4 ⟨0x04#8, 0, 0⟩)).resData = some 0 := by decide +kernel

/-- CV28, and the port on CV20's bytes. -/
theorem test_crc_port :
    crcPortOut unroll4 0 ⟨0x1234, 0xFF, 0⟩ = 0x1234#16
    ∧ crcPortOut unroll4 0 ⟨0, 0xFFFF010500, 3⟩ = crc16 [0x00, 0x05, 0x01] := by decide +kernel

/-! ### Byte order -/

/-- BV1. -/
theorem test_pack16_be : answer (.boPack16Be 0x1234) State.reset = some (0x0000000200003412#64, []) := by
  decide +kernel

/-- BV2. -/
theorem test_pack16_le : answer (.boPack16Le 0x1234) State.reset = some (0x0000000200001234#64, []) := by
  decide +kernel

/-- BV9: a NaN's payload passes. -/
theorem test_packf32_be : answer (.boPackF32Be 0x7FC00001) State.reset = some (0x000000040100C07F#64, []) := by
  decide +kernel

/-- BV8. -/
theorem test_packf32_le : answer (.boPackF32Le 0x41480000) State.reset = some (0x0000000441480000#64, []) := by
  decide +kernel

/-- BV11 and BV12 (no sign extension). -/
theorem test_unpack16_be :
    answer (.boUnpack16Be 0x00 0x0D) State.reset = some (0x000D#64, [])
    ∧ answer (.boUnpack16Be 0xFF 0xFF) State.reset = some (0xFFFF#64, []) := by decide +kernel

/-- BV14. -/
theorem test_unpack16_le : answer (.boUnpack16Le 0x34 0x12) State.reset = some (0x1234#64, []) := by decide +kernel

/-- BV15. -/
theorem test_unpackf32_be :
    answer (.boUnpackF32Be 0x41 0x48 0x00 0x00) State.reset = some (0x41480000#64, []) := by decide +kernel

/-- BV16 and BV17 (the wrong order). -/
theorem test_unpackf32_le :
    answer (.boUnpackF32Le 0x00 0x00 0x48 0x41) State.reset = some (0x41480000#64, [])
    ∧ answer (.boUnpackF32Le 0x41 0x48 0x00 0x00) State.reset = some (0x4841#64, []) := by decide +kernel

/-- BV18: in the command's cycle the reset `BO_REG`, one cycle later the result; the transaction's result is the same. -/
theorem test_bo_pipe :
    after (fun t => (t.boReg.res, t.resp.map fun r => (r.res, r.early))) (.boPack16Be 0x1234) (State.resetWith piped)
      = some (0x0000000200003412#64, some (0x0000000200003412#64, some 0#64)) := by decide +kernel

/-! ### Validator -/

/-- FV1, FV4, FV5, FV6, FV7, FV17. -/
theorem test_flv_check :
    answer (.flvCheck 0x02 13 0x54) State.reset = some (0x03#64, [])
    ∧ answer (.flvCheck 0x02 0 0x00) State.reset = some (0x22#64, [])
    ∧ answer (.flvCheck 0x77 4 0x00) State.reset = some (0x20#64, [])
    ∧ answer (.flvCheck 0x77 13 0x00) State.reset = some (0x40#64, [])
    ∧ answer (.flvCheck 0x01 5 0x00) State.reset = some (0x40#64, [])
    ∧ answer (.flvCheck 0x05 65535 0x00) State.reset = some (0x0F#64, []) := by decide +kernel

/-- FV11, FV16, FV20 to FV23 (R142's suggested ids). -/
theorem test_flv_check_rejects :
    answer (.flvCheck 0x35 10 0x00) State.reset = some (0x64#64, [])
    ∧ answer (.flvCheck 0x05 5 0x00) State.reset = some (0x8E#64, [])
    ∧ answer (.flvCheck 0x08 10 0x02) State.reset = some (0xB0#64, [])
    ∧ answer (.flvCheck 0x08 7 0x01) State.reset = some (0xD0#64, [])
    ∧ answer (.flvCheck 0x08 7 0x02) State.reset = some (0xB0#64, [])
    ∧ answer (.flvCheck 0x08 6 0x01) State.reset = some (0x90#64, []) := by decide +kernel

/-! ### Reassembler commands -/

/-- E4: the chunk becomes `W`, the cursor 0; `PEND` goes in front (R162). -/
theorem test_push :
    after (fun t => (t.sc, t.pend, t.stream)) (.raPush 2) { streaming Params.default [0x0D, 0x02, 0xAA] with pend := [0x00] }
      = some (.scan [0x00, 0x0D, 0x02] 0, [], [0xAA]) := by decide +kernel

/-- LV7: 13 bytes do not fit a working buffer of 8. -/
theorem test_push_overflow :
    after (fun t => (t.sc, t.pend, t.fcount, t.status)) (.raPush 13) (streaming capped trax)
      = some (.idle, [], 0, 0x21#8) := by decide +kernel

/-- P3: STATUS after `RA.SETPOL skip=0`. -/
theorem test_setpol : after State.status (.raSetpol false) State.reset = some 0x00#8 := by decide +kernel

/-- The write holds during a scan (R181): nothing is answered and nothing changes. -/
theorem test_setpol_holds :
    after (fun t => (t.skip, t.resp)) (.raSetpol false) (scanAt Params.default trax 0) = some (true, none) := by
  decide +kernel

/-- R185's example, and P4's 0x0F. -/
theorem test_status :
    answer .raStatus State.reset = some (0x01#64, []) ∧ answer .raStatus held = some (0x0F#64, []) := by decide +kernel

/-- R182: the 32 bits zero-extended. -/
theorem test_count :
    answer .raCount { State.reset with fcount := 0xFFFFFFFF } = some (0xFFFFFFFF#64, []) := by decide +kernel

/-- P3's twelve pending bytes. -/
theorem test_pendlen : answer .raPendlen { State.reset with pend := bad.drop 1 } = some (0x0C#64, []) := by
  decide +kernel

/-- R184: everything but `BO_REG` and the host's own. -/
theorem test_clear :
    after (fun t => (t.pend, t.fcount, t.status, t.boReg.res)) .raClear
        { State.resetWith piped with
          pend := [0x00], fcount := 2, skip := false, evq := [traxEvent], errIllop := true, errOvf := true
          boReg := packed 0x12 0x34 0 0 2 }
      = some ([], 0, 0x01#8, 0x0000000200003412#64) := by decide +kernel

/-- H1 and its 13 bytes; then the empty FIFO. -/
theorem test_evpop :
    answer .raEvpop held = some (h1, trax) ∧ answer .raEvpop State.reset = some (0#64, []) := by decide +kernel

/-- P4: popping lifts the hold. -/
theorem test_evpop_lifts_hold :
    scanReady held = false ∧ after scanReady .raEvpop held = some true := by decide +kernel

/-! ### Scan steps -/

/-- E4's first step. -/
theorem test_scan_emits :
    (scanStep (scanAt Params.default trax 0)).evq = [traxEvent]
    ∧ (scanStep (scanAt Params.default trax 0)).sc = .scan trax 13
    ∧ (scanStep (scanAt Params.default trax 0)).fcount = 1 := by decide +kernel

/-- RV23: a leftover of 6 bytes does not fit PEND_CAP = 4. -/
theorem test_finish_overflow :
    (scanStep (scanAt pend4 (trax.take 6) 0)).status = 0x21#8
    ∧ (scanStep (scanAt pend4 (trax.take 6) 0)).pend = [] := by decide +kernel

/-- RV22: the counter wraps. -/
theorem test_count_wraps :
    (scanStep { scanAt Params.default trax 0 with fcount := 0xFFFFFFFF }).fcount = 0 := by decide +kernel

/-- P4's hold: no state change. -/
theorem test_scan_holds : scanStep held = held := by decide +kernel

/-- RV2, RV4, RV5, RV10: stray byte, dropped frame, flagged frame, short length. -/
theorem test_chunks :
    decodeChunk Params.default [] true 0 (0x00 :: trax) = ⟨[], 1, [traxEvent]⟩
    ∧ decodeChunk Params.default [] true 0 bad = ⟨bad.drop 1, 1, []⟩
    ∧ decodeChunk Params.default [] false 0 bad = ⟨[], 1, [⟨0x02, 13, 0x2B92, true, .moduleInfoResp, bad⟩]⟩
    ∧ decodeChunk Params.default [] true 0 [0x00, 0x03, 0xAA] = ⟨[0x03, 0xAA], 1, []⟩ := by decide +kernel

/-- LV2 and LV3: BUFFER_END covers the rest of the buffer. -/
theorem test_chunks_buffer_end :
    decodeChunk (build fun p => { p with crcSlice := .bufferEnd }) [] true 0 (trax ++ scd) = ⟨(trax ++ scd).drop 1, 1, []⟩
    ∧ decodeChunk (build fun p => { p with crcSlice := .bufferEnd }) [] false 0 (trax ++ scd)
        = ⟨[], 2, [⟨0x02, 13, 0x2B91, true, .moduleInfoResp, trax⟩, ⟨0x13, 5, 0xDDA7, false, .setConfigDone, scd⟩]⟩ := by
  decide +kernel

/-- H2 and H3. -/
theorem test_headers :
    eventHeader ⟨0x02, 13, 0x2B92, true, .moduleInfoResp, bad⟩ = 0x0000065724001A05#64
    ∧ eventHeader ⟨0x13, 5, 0xDDA7, false, .setConfigDone, scd⟩ = 0x00000DBB4E000A27#64 := by decide +kernel

/-- R79's syntax on P1's and P3's lines. -/
theorem test_script_lines :
    scriptLine [] (.crcFold 0 [0x00, 0x05, 0x01]) = "CRC.FOLD crc=0x0000, [00 05 01]"
    ∧ scriptLine [] (.boPackF32Be 0x41480000) = "BO.PACKF32.BE 0x41480000"
    ∧ scriptLine [0x00] (.raPush 1) = "RA.PUSH [00]"
    ∧ scriptLine [] (.raSetpol false) = "RA.SETPOL skip=0" := by decide +kernel

/-- Placing a table word makes the very next step run it. -/
theorem test_with_fetch_word :
    (afterStep (State.reset.withFetchWord 8 0xC2)).resData = some 0x01
    ∧ (afterStep (State.reset.withFetchWord 8 0xFF)).errIllop = true := by decide +kernel

/-! ### Witnesses: a state and operands that meet the hypotheses of each statement, each clause at a boundary -/

theorem witness_DecodeEncodeRoundTrip :
    WellFormed unroll4 (.crcFold 0xFFFF [0xFF, 0xFF, 0xFF, 0xFF]) = true
    ∧ WellFormed Params.default (.crcFold 0xFFFF [1, 2, 3, 4, 5, 6, 7, 8]) = true
    ∧ WellFormed Params.default (.crcFold 0 [0]) = true ∧ WellFormed Params.default .raEvpop = true := by decide

theorem witness_DecodedCommandsAreWellFormed :
    decode unroll4 ⟨0x03#8, 0, 0⟩ = .ok (.crcFold 0 [0, 0, 0, 0]) ∧ decode unroll4 ⟨0xC6#8, 7, 7⟩ = .ok .raEvpop := by
  decide

/-- CV23's, BV3's and BV13's ignored bits, and those of the other formats, each clause at its widest. -/
theorem witness_IgnoredOperandBitsHaveNoEffect :
    usedBitsAgree ⟨0x00#8, 0xABCD0000, 0xFFFFFFFFFFFFFF01⟩ ⟨0x00#8, 0, 0x01⟩
    ∧ usedBitsAgree ⟨0x07#8, 0xFFFF1234, 0x8877665544332211⟩ ⟨0x07#8, 0x1234, 0x8877665544332211⟩
    ∧ usedBitsAgree ⟨0x41#8, 0xFFFF1234, 1⟩ ⟨0x41#8, 0x1234, 0⟩
    ∧ usedBitsAgree ⟨0x43#8, 0xFFFF1234, 1⟩ ⟨0x43#8, 0xFFFF1234, 0⟩
    ∧ usedBitsAgree ⟨0x45#8, 1, 0xAAAAAAAAAAAA0D00⟩ ⟨0x45#8, 0, 0x0D00⟩
    ∧ usedBitsAgree ⟨0x47#8, 1, 0xAAAAAAAA00000D00⟩ ⟨0x47#8, 0, 0x0D00⟩
    ∧ usedBitsAgree ⟨0xC1#8, 0xFFFFFFFF, 1⟩ ⟨0xC1#8, 1, 0⟩
    ∧ usedBitsAgree ⟨0xC6#8, 0xFFFFFFFF, 1⟩ ⟨0xC6#8, 0, 0⟩ := by
  refine ⟨?_, ?_, ?_, ?_, ?_, ?_, ?_, ?_⟩ <;> unfold usedBitsAgree <;> decide

theorem witness_ReservedCodesAreTheMapsGaps :
    reservedOp Params.default 0x08 ∧ reservedOp Params.default 0x3F ∧ reservedOp Params.default 0x48
    ∧ reservedOp Params.default 0x7F ∧ reservedOp Params.default 0x81 ∧ reservedOp Params.default 0xBF
    ∧ reservedOp Params.default 0xC7 ∧ reservedOp Params.default 0xFF ∧ reservedOp unroll4 0x04
    ∧ ¬ reservedOp unroll4 0x03 ∧ ¬ reservedOp Params.default 0x07 ∧ ¬ reservedOp Params.default 0x40
    ∧ ¬ reservedOp Params.default 0x47 ∧ ¬ reservedOp Params.default 0x80 ∧ ¬ reservedOp Params.default 0xC0
    ∧ ¬ reservedOp Params.default 0xC6 := by
  refine ⟨?_, ?_, ?_, ?_, ?_, ?_, ?_, ?_, ?_, ?_, ?_, ?_, ?_, ?_, ?_, ?_⟩ <;> unfold reservedOp <;> decide

/-- The two clauses on format C at their edges; every other clause's hypothesis is one op value. -/
theorem witness_OpcodeMapNamesItsCommands :
    ((0x03#8 : Byte).toNat < 0x08 ∧ (0x03#8 : Byte).toNat + 1 ≤ unroll4.crcUnroll)
    ∧ ((0x07#8 : Byte).toNat < 0x08 ∧ (0x07#8 : Byte).toNat + 1 ≤ Params.default.crcUnroll)
    ∧ reservedOp unroll4 (0x04#8 : Byte).toNat := by unfold reservedOp; decide

/-- No scan step to make; and both agents with a step, the host first. -/
theorem witness_StepRunsTheDecodedCommand :
    hostMoves (issuing Params.default ⟨0xC2#8, 0, 0⟩) ⟨0xC2#8, 0, 0⟩
    ∧ hostMoves { issueCommand ⟨0xC2#8, 0, 0⟩ (scanAt Params.default trax 0) with turn := some .host } ⟨0xC2#8, 0, 0⟩
    ∧ decode Params.default ⟨0xC2#8, 0, 0⟩ = .ok .raStatus := by
  unfold hostMoves; decide +kernel

theorem witness_StepTakesAReservedCommand :
    hostMoves (issuing Params.default ⟨0x08#8, 0, 0⟩) ⟨0x08#8, 0, 0⟩
    ∧ reservedOp Params.default (0x08#8 : Byte).toNat
    ∧ hostMoves (issuing unroll4 ⟨0x04#8, 0, 0⟩) ⟨0x04#8, 0, 0⟩ ∧ reservedOp unroll4 (0x04#8 : Byte).toNat := by
  unfold hostMoves reservedOp; decide +kernel

/-- The scanner alone (a held command behind it), and both agents with a step, the scanner first. -/
theorem witness_StepMovesTheScanner :
    (let s := issueCommand ⟨0xC5#8, 0, 0⟩ (scanAt Params.default trax 0)
     s.rst = false ∧ scanReady s = true ∧ hostReady s = false)
    ∧ (let s := { issueCommand ⟨0xC2#8, 0, 0⟩ (scanAt Params.default trax 0) with turn := some .scanner }
       s.rst = false ∧ scanReady s = true ∧ hostReady s = true ∧ hostFirst s = false) := by decide +kernel

theorem witness_ResetCycleAppliesTheTable : (setRst true (issueCommand ⟨0xC0#8, 0, 0⟩ held)).rst = true := by decide

/-- The default build, and the ends of R6's ranges. -/
theorem witness_ResetStateHoldsTheResetValues :
    Params.default.legal = true
    ∧ (build fun p => { p with crcUnroll := 1, pendCap := 2, evqDepth := 1, boPipe := true }).legal = true
    ∧ capped.legal = true := by decide

theorem witness_CrcFoldFoldsItsBytes :
    ((0x03#8 : Byte).toNat < 0x08 ∧ (0x03#8 : Byte).toNat + 1 ≤ unroll4.crcUnroll)
    ∧ (1 ≤ [0x01#8].length ∧ [0x01#8].length ≤ 8 ∧ [0x01#8].length ≤ (State.resetWith unroll4).cfg.crcUnroll)
    ∧ (trax.take 8).length ≤ 8 ∧ (trax.take 8).length ≤ State.reset.cfg.crcUnroll
    ∧ ((0x04#8 : Byte).toNat < 0x08 ∧ unroll4.crcUnroll < (0x04#8 : Byte).toNat + 1)
    ∧ (⟨0x1234, 0, 0⟩ : CrcPins).n = 0
    ∧ (1 ≤ (⟨0, 0, 4⟩ : CrcPins).n.toNat ∧ (⟨0, 0, 4⟩ : CrcPins).n.toNat ≤ unroll4.crcUnroll) := by decide

theorem witness_CrcResidueOfAFrameIsZero : validFrame trax = true ∧ validFrame scd = true := by decide +kernel

theorem witness_CrcOfASequenceSplitsAnywhere :
    (build fun p => { p with crcUnroll := 1 }).legal = true ∧ Params.default.legal = true := by decide

/-- Each clause's chain of two commands runs, from any state. -/
theorem witness_PackAndUnpackAreInverse (s : State) :
    (∃ t r u q, exec (.boPack16Be 0x1234) s = .next t ∧ t.resp = some r
      ∧ exec (.boUnpack16Be (lane r.res 0) (lane r.res 1)) t = .next u ∧ u.resp = some q)
    ∧ (∃ t r u q, exec (.boPack16Le 0xFFFF) s = .next t ∧ t.resp = some r
      ∧ exec (.boUnpack16Le (lane r.res 0) (lane r.res 1)) t = .next u ∧ u.resp = some q)
    ∧ (∃ t r u q, exec (.boPackF32Be 0x7FC00001) s = .next t ∧ t.resp = some r
      ∧ exec (.boUnpackF32Be (lane r.res 0) (lane r.res 1) (lane r.res 2) (lane r.res 3)) t = .next u
      ∧ u.resp = some q)
    ∧ (∃ t r u q, exec (.boPackF32Le 0xFFFFFFFF) s = .next t ∧ t.resp = some r
      ∧ exec (.boUnpackF32Le (lane r.res 0) (lane r.res 1) (lane r.res 2) (lane r.res 3)) t = .next u
      ∧ u.resp = some q)
    ∧ (∃ t r u q, exec (.boUnpack16Be 0xFF 0x00) s = .next t ∧ t.resp = some r
      ∧ exec (.boPack16Be (r.res.extractLsb' 0 16)) t = .next u ∧ u.resp = some q)
    ∧ (∃ t r u q, exec (.boUnpack16Le 0xFF 0x00) s = .next t ∧ t.resp = some r
      ∧ exec (.boPack16Le (r.res.extractLsb' 0 16)) t = .next u ∧ u.resp = some q)
    ∧ (∃ t r u q, exec (.boUnpackF32Be 0xFF 0x00 0x00 0x01) s = .next t ∧ t.resp = some r
      ∧ exec (.boPackF32Be (r.res.extractLsb' 0 32)) t = .next u ∧ u.resp = some q)
    ∧ (∃ t r u q, exec (.boUnpackF32Le 0xFF 0x00 0x00 0x01) s = .next t ∧ t.resp = some r
      ∧ exec (.boPackF32Le (r.res.extractLsb' 0 32)) t = .next u ∧ u.resp = some q) :=
  ⟨⟨_, _, _, _, rfl, rfl, rfl, rfl⟩, ⟨_, _, _, _, rfl, rfl, rfl, rfl⟩, ⟨_, _, _, _, rfl, rfl, rfl, rfl⟩,
   ⟨_, _, _, _, rfl, rfl, rfl, rfl⟩, ⟨_, _, _, _, rfl, rfl, rfl, rfl⟩, ⟨_, _, _, _, rfl, rfl, rfl, rfl⟩,
   ⟨_, _, _, _, rfl, rfl, rfl, rfl⟩, ⟨_, _, _, _, rfl, rfl, rfl, rfl⟩⟩

/-- The pack clauses of R122 to R125 and the unpack clauses of R126 to R129 at their op values. -/
theorem witness_ByteOrderOps :
    decode Params.default ⟨0x40#8, 0xFFFFFFFF, 0⟩ = .ok (.boPack16Be 0xFFFF)
    ∧ decode Params.default ⟨0x43#8, 0xFFFFFFFF, 0⟩ = .ok (.boPackF32Le 0xFFFFFFFF)
    ∧ decode Params.default ⟨0x44#8, 0, 0x0D00⟩ = .ok (.boUnpack16Be 0x00 0x0D)
    ∧ decode Params.default ⟨0x47#8, 0, 0x41480000⟩ = .ok (.boUnpackF32Le 0x00 0x00 0x48 0x41) := by decide

theorem witness_EarlySampleShowsThePreviousBoResult :
    isBo (.boPack16Be 0x1234) = true ∧ isBo (.boUnpackF32Le 0 0 0 0) = true
    ∧ (State.resetWith piped).cfg.boPipe = true ∧ (State.resetWith piped).boReg = BoReg.zero
    ∧ State.reset.cfg.boPipe = false := by decide

/-- One id and length for each clause: fixed, data report, config response; every reason. -/
theorem witness_FlvAcceptsByCategoryAndLength :
    flv RegistryIds.suggested 0x02 13 0 = ⟨true, .moduleInfoResp, .ok⟩
    ∧ flv RegistryIds.suggested 0x05 6 0 = ⟨true, .dataReport, .ok⟩
    ∧ flv RegistryIds.suggested 0x08 10 0x01 = ⟨true, .configResponse, .ok⟩
    ∧ (flv RegistryIds.suggested 0x02 4 0).reason = .badLength
    ∧ (flv RegistryIds.suggested 0x77 5 0).reason = .unknownId
    ∧ (flv RegistryIds.suggested 0x02 12 0).reason = .lengthMismatch
    ∧ (flv RegistryIds.suggested 0x05 5 0).reason = .tooShort
    ∧ (flv RegistryIds.suggested 0x08 6 0x01).reason = .tooShort
    ∧ (flv RegistryIds.suggested 0x08 7 0x02).reason = .unknownConfigId
    ∧ (flv RegistryIds.suggested 0x08 9 0x01).reason = .configTooShort := by decide +kernel

theorem witness_RegistryMapsTheListedIds :
    RegistryIds.suggested.legal = true ∧ 0x77#8 ∉ RegistryIds.suggested.toList
    ∧ 0x00#8 ∉ RegistryIds.suggested.toList ∧ 0xFF#8 ∉ RegistryIds.suggested.toList := by decide

/-- Held; an empty chunk and one that takes the whole stream; a working buffer filled to WORK_CAP and one byte past it. -/
theorem witness_RaPushStartsTheScan :
    held.busy = true
    ∧ (State.reset.busy = false ∧ (0#32 : Word).toNat ≤ State.reset.stream.length ∧ ¬ overflowsWork State.reset 0)
    ∧ ((13#32 : Word).toNat ≤ (streaming Params.default trax).stream.length
      ∧ ¬ overflowsWork (streaming Params.default trax) 13)
    ∧ ((streaming capped trax).busy = false ∧ (9#32 : Word).toNat ≤ (streaming capped trax).stream.length
      ∧ ¬ overflowsWork (streaming capped trax) 8 ∧ overflowsWork (streaming capped trax) 9) := by
  refine ⟨by decide, ⟨by decide, by decide, fun h => by cases h.1⟩, ⟨by decide, fun h => by cases h.1⟩, by decide, by decide, ?_,
    ⟨by decide, 8, by decide⟩⟩
  rintro ⟨-, cap, hcap, hlt⟩
  have : cap = 8 := (Option.some.inj hcap).symm
  subst this
  exact absurd hlt (by decide)

theorem witness_RaPushOverflowsTheWorkingBuffer :
    ((streaming capped trax).busy = false ∧ (9#32 : Word).toNat ≤ (streaming capped trax).stream.length
      ∧ overflowsWork (streaming capped trax) (9#32 : Word).toNat)
    ∧ (State.reset.busy = false ∧ (0#32 : Word).toNat ≤ State.reset.stream.length
      ∧ State.reset.cfg.crcSlice = .perFrame) := by
  refine ⟨⟨by decide, by decide, by decide, 8, by decide⟩, by decide⟩

theorem witness_CommandsHoldWhileBusy :
    held.busy = true ∧ (issueCommand ⟨0xC0#8, 1, 0⟩ held).cmds.head? = some ⟨0xC0#8, 1, 0⟩
    ∧ decode held.cfg ⟨0xC0#8, 1, 0⟩ = .ok (.raPush 1) ∧ decode held.cfg ⟨0xC1#8, 1, 0⟩ = .ok (.raSetpol true)
    ∧ decode held.cfg ⟨0xC5#8, 1, 0⟩ = .ok .raClear := by decide

/-- For the statements on a state with `SC = Idle` (`RA.SETPOL`, `RA.CLEAR`, `RA.COUNT`, `RA.PENDLEN`). -/
theorem witness_idle :
    State.reset.busy = false
    ∧ { State.reset with pend := [0x00], fcount := 0xFFFFFFFF, evq := [traxEvent], errOvf := true }.busy = false := by
  decide

/-- For the clauses of `RA.COUNT` and `RA.PENDLEN` while BUSY, and of `RA.EVPOP` with an event. -/
theorem witness_busy : held.busy = true ∧ held.evq = [traxEvent] := by decide

theorem witness_ReadsHaveNoSideEffect :
    isRead (.boPack16Be 1) ∧ isRead (.crcFold 0 [1]) ∧ WellFormed State.reset.cfg (.crcFold 0 [1]) = true
    ∧ isRead (.flvCheck 2 13 0) ∧ isRead .raStatus ∧ isRead .raCount ∧ isRead .raPendlen := by
  simp only [isRead, isBo]
  refine ⟨by simp, .inr (.inl ⟨_, _, rfl⟩), by decide, .inr (.inr (.inl ⟨_, _, _, rfl⟩)), by simp, by simp, by simp⟩

/-- For every statement on a scan at `W`, `cur`: each branch of R168 has its state. -/
theorem witness_ScanStepFollowsItsText :
    scanDecision Params.default true [0x00] 0 = .finish
    ∧ scanDecision Params.default true [0xFF, 0x00] 0 = .finish
    ∧ scanDecision Params.default true [0x00, 0x00] 0 = .reject .zeroLength
    ∧ scanDecision Params.default true [0x00, 0x03] 0 = .finish
    ∧ scanDecision Params.default true [0x00, 0x01] 0 = .reject .shortLength
    ∧ scanDecision Params.default true [0x00, 0x02] 0 = .reject .shortLength
    ∧ scanDecision Params.default true bad 0 = .reject .checksum
    ∧ scanDecision Params.default true [0x00, 0x05, 0x01, 0xEF, 0xD4] 0 = .reject (.validator .unknownId)
    ∧ scanDecision Params.default true trax 0 = .accept traxEvent := by decide +kernel

theorem witness_FullFifoHoldsTheScanner :
    held.sc = .scan (trax ++ trax) 13 ∧ scanDecision held.cfg held.skip (trax ++ trax) 13 = .accept traxEvent
    ∧ held.evq.length = held.cfg.evqDepth ∧ 1 ≤ held.cfg.evqDepth := by decide +kernel

theorem witness_ScanMakesProgress :
    (scanAt Params.default trax 13).sc = .scan trax 13 ∧ 13 ≤ trax.length
    ∧ scanHeld (scanAt Params.default trax 13) = false ∧ scanHeld (scanAt Params.default trax 0) = false := by
  decide +kernel

theorem witness_ScanFinishesInTime :
    (scanAt Params.default trax 0).evq.length + (trax.length - 0) ≤ (scanAt Params.default trax 0).cfg.evqDepth
    ∧ (scanAt shallow trax 13).evq.length + (trax.length - 13) ≤ (scanAt shallow trax 13).cfg.evqDepth := by decide

/-- P4's chunk with its pop between the two frames. -/
theorem witness_ScanComputesTheChunkSummary :
    workOverflow shallow ((State.resetWith shallow).pend ++ (trax ++ trax)).length = false
    ∧ (decodeChunk shallow [] true 0 (trax ++ trax)).pend.length ≤ shallow.pendCap
    ∧ (scanAndPop [true, true, false, true, true] (pushChunk (trax ++ trax) (State.resetWith shallow), [])).1.sc = .idle := by
  decide +kernel

theorem witness_ChunkBoundariesDoNotMatter : Params.default.crcSlice = .perFrame := by decide

theorem witness_EmptyChunkChangesNothing :
    stopped [] ∧ stopped [0x00] ∧ stopped (trax.take 12) ∧ (trax.take 12).length ≤ Params.default.pendCap
    ∧ workOverflow Params.default (trax.take 12).length = false := by
  unfold stopped; decide +kernel

theorem witness_DefaultPendingBufferNeverOverflows :
    (scanAt Params.default trax 0).pend.length ≤ 65534 ∧ 65534 ≤ (scanAt Params.default trax 0).cfg.pendCap
    ∧ 65534 ≤ (build fun p => { p with pendCap := 65534 }).pendCap := by decide

/-- A frame that ends the buffer, and one with exactly two bytes after it. -/
theorem witness_BufferEndComputesTheRestOfTheBuffer :
    5 ≤ 13 ∧ 0 + 13 = trax.length ∧ 0 + 13 + 2 ≤ (trax ++ [0x00, 0x05]).length
    ∧ validFrame (slice (trax ++ [0x00, 0x05]) 0 (0 + 13)) = true := by decide +kernel

theorem witness_ValidFramesAreDelivered :
    validFrame trax = true ∧ (flv RegistryIds.suggested (frameId trax) (u16be trax 0) (frameCfg trax)).ok = true
    ∧ trax.length < 256 := by decide +kernel

/-- A delivery under either policy. -/
theorem witness_ChecksumPolicyGovernsDelivery :
    (∃ ev, (scanStep (scanAt Params.default trax 0)).evq = (scanAt Params.default trax 0).evq ++ [ev])
    ∧ (scanAt Params.default trax 0).skip = true
    ∧ ∃ ev, (scanStep { scanAt Params.default bad 0 with skip := false }).evq
        = (scanAt Params.default bad 0).evq ++ [ev] := by
  refine ⟨⟨traxEvent, by decide +kernel⟩, by decide, ⟨⟨0x02, 13, 0x2B92, true, .moduleInfoResp, bad⟩, by decide +kernel⟩⟩

theorem witness_InvariantHoldsAtReset : pend4.legal = true ∧ shallow.legal = true ∧ piped.legal = true := by decide

/-- The invariant of a busy state with a full FIFO. -/
theorem witness_EveryStepKeepsTheInvariant : held.Inv ∧ ∃ t, step held = .next t ∧ t.sc = held.sc := by
  refine ⟨⟨by decide, by decide, by decide, by decide, .inl (by decide), ?_, by decide, ?_, by decide⟩, ?_⟩
  · show 13 ≤ (trax ++ trax).length
    decide
  · intro e he
    have : e = traxEvent := by simpa [held] using he
    subst this
    exact ⟨by decide, by decide, by decide, by decide, by decide, by decide, by decide +kernel⟩
  · exact step_next (by decide +kernel)

/-- An event appended, popped, and discarded by `RA.CLEAR`. -/
theorem witness_EventsKeepTheirOrder :
    (∃ t, step (scanAt Params.default trax 0) = .next t ∧ t.evq = [traxEvent])
    ∧ (∃ t, step (issueCommand ⟨0xC6#8, 0, 0⟩ held) = .next t ∧ t.evq = [])
    ∧ (∃ t, step { issuing Params.default ⟨0xC5#8, 0, 0⟩ with evq := [traxEvent] } = .next t ∧ t.evq = []) := by
  refine ⟨step_next ?_, step_next ?_, step_next ?_⟩ <;> decide +kernel

theorem witness_PolicyIsFixedDuringAScan :
    (held.rst = false ∧ held.busy = true)
    ∧ (∃ t, step (issuing Params.default ⟨0xC1#8, 0, 0⟩) = .next t ∧ t.skip ≠ true)
    ∧ (∃ t, step { issuing Params.default ⟨0xC5#8, 0, 0⟩ with skip := false } = .next t ∧ t.skip ≠ false) := by
  refine ⟨by decide, step_next ?_, step_next ?_⟩ <;> decide +kernel

/-- Each bit set, by each of its causes. -/
theorem witness_ErrorBitsAreSticky :
    (∃ t, step (issuing Params.default ⟨0x08#8, 0, 0⟩) = .next t ∧ t.errIllop = true)
    ∧ (∃ t, step (scanAt pend4 (trax.take 5) 0) = .next t ∧ t.errOvf = true)
    ∧ (∃ t, step (issueCommand ⟨0xC0#8, 13, 0⟩ (streaming capped trax)) = .next t ∧ t.errOvf = true)
    ∧ (∃ t, step { issuing Params.default ⟨0xC2#8, 0, 0⟩ with errIllop := true, errOvf := true } = .next t
        ∧ t.errIllop = true ∧ t.errOvf = true) := by
  refine ⟨step_next ?_, step_next ?_, step_next ?_, step_next ?_⟩ <;>
    decide +kernel

theorem witness_OnlyTheScanCounts :
    (∃ t, step (scanAt Params.default trax 0) = .next t ∧ t.fcount ≠ 0)
    ∧ (∃ t, step { issuing Params.default ⟨0xC5#8, 0, 0⟩ with fcount := 7 } = .next t ∧ t.fcount ≠ 7) := by
  refine ⟨step_next ?_, step_next ?_⟩ <;> decide +kernel

theorem witness_PendingBytesChangeOnlyAtTheScanEnds :
    (∃ t, step (scanAt Params.default [0x00] 0) = .next t ∧ t.pend ≠ [])
    ∧ (∃ t, step { issuing Params.default ⟨0xC0#8, 0, 0⟩ with pend := [0x00] } = .next t ∧ t.pend ≠ [0x00])
    ∧ (∃ t, step { issuing Params.default ⟨0xC5#8, 0, 0⟩ with pend := [0x00] } = .next t ∧ t.pend ≠ [0x00])
    ∧ (∃ t, step { setRst true State.reset with pend := [0x00] } = .next t ∧ t.pend ≠ [0x00]) := by
  refine ⟨step_next ?_, step_next ?_, step_next ?_, step_next ?_⟩ <;>
    decide +kernel

/-- For the statements whose only hypothesis is a step to a next state: a command taken, and one held. -/
theorem witness_step :
    (∃ t, step (issuing Params.default ⟨0xC2#8, 0, 0⟩) = .next t ∧ t.cmds = [])
    ∧ (∃ t, step (issueCommand ⟨0xC5#8, 0, 0⟩ held) = .next t ∧ t.cmds = [⟨0xC5#8, 0, 0⟩]) := by
  refine ⟨step_next ?_, step_next ?_⟩ <;> decide +kernel

theorem witness_EvPendingFollowsTheFifo :
    (scanAt Params.default trax 0).evPending = false ∧ (scanStep (scanAt Params.default trax 0)).evPending = true
    ∧ held.evPending = true := by decide +kernel

theorem witness_FullFifoAndHeldCommandDeadlock :
    (let s := issueCommand ⟨0xC0#8, 0, 0⟩ held
     s.rst = false ∧ scanHeld s = true ∧ s.cmds.head? = some ⟨0xC0#8, 0, 0⟩ ∧ s.turn = none)
    ∧ decode held.cfg ⟨0xC0#8, 0, 0⟩ = .ok (.raPush 0) ∧ waitsForIdle (.raPush 0) = true := by decide +kernel

end Sys2Proof.Tests
end

section
/-! PROOF. The values after reset (10_state.md R33, R29) and the sticky error bits (R27). -/

namespace Sys2Proof

/-! ### Legal builds and decoded commands -/

/-- The ranges R6 gives the parameters, and the registry's own check. -/
theorem Params.legal_iff (p : Params) :
    p.legal = true ↔ 1 ≤ p.crcUnroll ∧ p.crcUnroll ≤ 8 ∧ 2 ≤ p.pendCap ∧ p.pendCap ≤ 65535
      ∧ 1 ≤ p.evqDepth ∧ p.ids.legal = true := by
  simp [Params.legal, and_assoc]

@[simp] theorem length_lanes (din : DWord) (n : Nat) : (lanes din n).length = n := by simp [lanes]

/-- Format C (R62): the three bits of `n - 1` and the bound R64 puts on `n` are what `WellFormed` asks for. -/
theorem wellFormed_of_decodeFold {p : Params} {c : Command} {i : Instr} (h : decodeFold p c = .ok i) :
    WellFormed p i = true := by
  unfold decodeFold at h
  dsimp only at h
  by_cases hn : (c.op.extractLsb' 0 3).toNat + 1 ≤ p.crcUnroll
  · rw [if_pos hn] at h
    cases h
    have h8 : (c.op.extractLsb' 0 3).toNat < 8 := (c.op.extractLsb' 0 3).isLt
    simp only [WellFormed, length_lanes, Bool.and_eq_true, decide_eq_true_eq]
    omega
  · rw [if_neg hn] at h
    cases h

/-- One row of the opcode map (R78): its command is well-formed, and so is what the rows after it name. -/
theorem wellFormed_of_row {p : Params} {row : Prop} [Decidable row] {i j : Instr} {rest : Except Reject Instr}
    (hj : WellFormed p j = true) (hrest : rest = .ok i → WellFormed p i = true)
    (h : (if row then .ok j else rest) = .ok i) : WellFormed p i = true := by
  by_cases hrow : row
  · rw [if_pos hrow] at h
    cases h
    exact hj
  · rw [if_neg hrow] at h
    exact hrest h

/-- The decoder names no command that its build cannot express. -/
theorem wellFormed_of_decode {p : Params} {c : Command} {i : Instr} (h : decode p c = .ok i) :
    WellFormed p i = true := by
  revert h
  unfold decode
  by_cases hfold : c.op &&& 0xF8#8 = 0x00#8
  · rw [if_pos hfold]
    exact wellFormed_of_decodeFold
  · rw [if_neg hfold]
    iterate 16 refine wellFormed_of_row rfl ?_
    exact nofun

end Sys2Proof

namespace Sys2Proof.Machine

/-- A step that runs a command runs the one that the transaction on the port decodes to (R49). -/
theorem decode_of_nextMove_command {s : State} {i : Instr} (h : nextMove s = .command i) :
    ∃ c rest, s.cmds = c :: rest ∧ decode s.cfg c = .ok i := by
  rcases nextMove_cases s with ⟨-, hm⟩ | ⟨-, -, -, hm⟩ | ⟨-, -, hm⟩
  · simp [hm] at h
  · simp [hm] at h
  · rcases hostMove_cases s with ⟨hh, -⟩ | ⟨c, rest, j, hc, hd, hh⟩ | ⟨c, rest, e, -, -, hh⟩
    · simp [hm, hh] at h
    · have hj : j = i := by simpa [hm, hh] using h
      exact ⟨c, rest, hc, hj ▸ hd⟩
    · simp [hm, hh] at h

theorem wellFormed_of_nextMove_command {s : State} {i : Instr} (h : nextMove s = .command i) :
    WellFormed s.cfg i = true :=
  let ⟨_, _, _, hd⟩ := decode_of_nextMove_command h
  wellFormed_of_decode hd

/-! ### Reset -/

/-- `EVQFULL` is 0 after reset: a legal build's FIFO has room for an event (R6). -/
theorem resetWith_evqFull {p : Params} (h : p.legal = true) : (State.resetWith p).evqFull = false := by
  obtain ⟨-, -, -, -, hdepth, -⟩ := (Params.legal_iff p).mp h
  have hroom : ¬ 0 = p.evqDepth := by omega
  exact decide_eq_false hroom

/-- After reset `SKIP` is the only bit of `STATUS` that is set (R29). -/
theorem resetWith_status {p : Params} (h : p.legal = true) : (State.resetWith p).status = 0x01#8 := by
  have hbits : (State.resetWith p).status
      = 0#2 ++ BitVec.ofBool false ++ BitVec.ofBool false ++ BitVec.ofBool (State.resetWith p).evqFull
        ++ BitVec.ofBool false ++ BitVec.ofBool false ++ BitVec.ofBool true := rfl
  rw [hbits, resetWith_evqFull h]
  decide

/-- Settles O12: the fields stand in `State.resetWith`; `STATUS` needs a build with room in `EVQ`. -/
theorem resetStateHoldsTheResetValues : Obligations.ResetStateHoldsTheResetValues :=
  fun _ h => ⟨rfl, rfl, rfl, rfl, rfl, rfl, rfl, rfl, resetWith_status h⟩

/-! ### The sticky error bits -/

/-- R204: a fault is recorded exactly while an error bit is set. -/
theorem recordedFault_ne_none_iff (s : State) :
    s.recordedFault ≠ none ↔ s.errIllop = true ∨ s.errOvf = true := by
  unfold State.recordedFault
  cases s.errIllop <;> cases s.errOvf <;> simp

/-- A scan step sets at most `ERR_OVF` and clears no error bit (R170). -/
theorem scanStep_errorBits (s : State) :
    (scanStep s).errIllop = s.errIllop ∧ (s.errOvf = true → (scanStep s).errOvf = true) := by
  obtain ⟨-, -, hillop, -, -, -, -, -, -, hovf, -⟩ := scanStep_frame s
  exact ⟨hillop, hovf⟩

/-- What a command's meaning does to the error bits: nothing, but for `RA.PUSH` (R163) and `RA.CLEAR` (R184). The
reserved outcome of a `CRC.FOLD` no code can carry (log entry 16) is what `hwf` leaves out. -/
theorem exec_errorBits {i : Instr} {s t : State} (hwf : WellFormed s.cfg i = true) (h : exec i s = .next t) :
    t.errIllop = s.errIllop ∧ t.errOvf = s.errOvf
    ∨ (∃ n, i = .raPush n) ∧ t.errIllop = s.errIllop ∧ (s.errOvf = true → t.errOvf = true)
    ∨ i = .raClear ∧ t.errIllop = false ∧ t.errOvf = false := by
  rcases exec_cases h with rfl | ⟨r, rfl⟩ | ⟨r, b, rfl⟩ | ⟨r, -, -, rfl⟩ | ⟨n, rfl, -, rfl⟩ | ⟨b, -, -, rfl⟩
    | ⟨rfl, -, rfl⟩ | ⟨ev, evs, -, -, rfl⟩ | ⟨c, d, -, hnot, -⟩
  · exact .inl ⟨rfl, rfl⟩
  · exact .inl ⟨rfl, rfl⟩
  · exact .inl ⟨rfl, rfl⟩
  · exact .inl ⟨rfl, rfl⟩
  · exact .inr (.inl ⟨⟨n, rfl⟩, by simp, fun hs => by simp [hs]⟩)
  · exact .inl ⟨rfl, rfl⟩
  · exact .inr (.inr ⟨rfl, rfl, rfl⟩)
  · exact .inl ⟨rfl, rfl⟩
  · simp [hwf] at hnot

/-- What a step does to the error bits, by its move: a reserved command sets `ERR_ILLOP` (R64), a scan step and `RA.PUSH`
can set `ERR_OVF` (R163, R170), reset and `RA.CLEAR` clear both, and every other move keeps both. -/
theorem step_errorBits {s t : State} (h : step s = .next t) :
    t.errIllop = s.errIllop ∧ t.errOvf = s.errOvf
    ∨ (nextMove s = .scan ∨ ∃ n, nextMove s = .command (.raPush n))
        ∧ t.errIllop = s.errIllop ∧ (s.errOvf = true → t.errOvf = true)
    ∨ nextMove s = .reserved ∧ t.errIllop = true ∧ t.errOvf = s.errOvf
    ∨ (nextMove s = .reset ∨ nextMove s = .command .raClear) ∧ t.errIllop = false ∧ t.errOvf = false := by
  rcases step_cases h with ⟨hm, rfl⟩ | ⟨-, rfl⟩ | ⟨hm, rfl⟩ | ⟨i, hm, he⟩ | ⟨hm, rfl⟩
  · exact .inr (.inr (.inr ⟨.inl hm, rfl, rfl⟩))
  · exact .inl ⟨rfl, rfl⟩
  · exact .inr (.inl ⟨.inl hm, scanStep_errorBits (settle s)⟩)
  · have hwf : WellFormed s.cfg i = true := wellFormed_of_nextMove_command hm
    rcases exec_errorBits (s := settle s) hwf he with hkeep | ⟨⟨n, rfl⟩, hpush⟩ | ⟨rfl, hclear⟩
    · exact .inl hkeep
    · exact .inr (.inl ⟨.inr ⟨n, hm⟩, hpush⟩)
    · exact .inr (.inr (.inr ⟨.inr hm, hclear⟩))
  · exact .inr (.inr (.inl ⟨hm, rfl, rfl⟩))

/-- Settles O54, case by case on what the step does to the error bits. -/
theorem errorBitsAreSticky : Obligations.ErrorBitsAreSticky := by
  intro s t h
  have hfault := recordedFault_ne_none_iff t
  rcases step_errorBits h with ⟨hillop, hovf⟩ | ⟨hm, hillop, hovf⟩ | ⟨hm, hillop, hovf⟩ | ⟨hm, hillop, hovf⟩
  · exact ⟨fun hs => .inl (hillop.trans hs), fun hs => .inl (hovf.trans hs),
      fun hs ht => by simp [hillop, hs] at ht, fun hs ht => by simp [hovf, hs] at ht, hfault⟩
  · exact ⟨fun hs => .inl (hillop.trans hs), fun hs => .inl (hovf hs),
      fun hs ht => by simp [hillop, hs] at ht, fun _ _ => hm, hfault⟩
  · exact ⟨fun _ => .inl hillop, fun hs => .inl (hovf.trans hs),
      fun _ _ => hm, fun hs ht => by simp [hovf, hs] at ht, hfault⟩
  · exact ⟨fun _ => .inr hm, fun _ => .inr hm,
      fun _ ht => by simp [hillop] at ht, fun _ ht => by simp [hovf] at ht, hfault⟩

end Sys2Proof.Machine
end

section
/-! PROOF. The opcode map, row by row (30_encoding.md R62, R64, R78). -/

namespace Sys2Proof

/-! ### Format C: the eight codes below `0x08` -/

/-- The mask of the format C row selects the op values below `0x08` (R62). -/
theorem op_and_F8_eq_zero_iff (op : Byte) : op &&& 0xF8#8 = 0x00#8 ↔ op.toNat < 0x08 := by
  revert op
  decide

/-- Below `0x08`, `op[2:0]` is the op value. -/
theorem toNat_extractLsb'_of_lt_eight {op : Byte} (h : op.toNat < 0x08) : (op.extractLsb' 0 3).toNat = op.toNat := by
  simpa using h

/-- Format C (R62, R64): the row's command where CRC_UNROLL has room for its bytes, else a reserved code. -/
theorem decode_of_lt_eight (p : Params) {c : Command} (h : c.op.toNat < 0x08) :
    decode p c = if c.op.toNat + 1 ≤ p.crcUnroll
      then .ok (.crcFold (c.arg.extractLsb' 0 16) (lanes c.din (c.op.toNat + 1)))
      else .error (.foldTooLong (c.op.toNat + 1)) := by
  have hfold : c.op &&& 0xF8#8 = 0x00#8 := (op_and_F8_eq_zero_iff c.op).mpr h
  rw [decode, if_pos hfold, decodeFold, toNat_extractLsb'_of_lt_eight h]

/-! ### The gaps between the rows -/

/-- A reserved value past format C is no row's op value (R64, R78). -/
theorem decode_of_reservedOp_of_eight_le {p : Params} {c : Command} (hres : Machine.reservedOp p c.op.toNat)
    (h8 : 0x08 ≤ c.op.toNat) : decode p c = .error (.reservedOp c.op) := by
  have hfold : ¬ c.op &&& 0xF8#8 = 0x00#8 := by
    rw [op_and_F8_eq_zero_iff]
    omega
  unfold Machine.reservedOp at hres
  rw [decode, if_neg hfold]
  iterate 16 rw [if_neg (by bv_omega)]

/-- Every reserved value is refused (R64, R78). -/
theorem exists_error_of_reservedOp {p : Params} {c : Command} (hres : Machine.reservedOp p c.op.toNat) :
    ∃ e, decode p c = .error e := by
  by_cases h8 : c.op.toNat < 0x08
  · have hlong : ¬ c.op.toNat + 1 ≤ p.crcUnroll := by
      unfold Machine.reservedOp at hres
      omega
    exact ⟨_, (decode_of_lt_eight p h8).trans (if_neg hlong)⟩
  · exact ⟨_, decode_of_reservedOp_of_eight_le hres (Nat.le_of_not_lt h8)⟩

/-- Settles O5: format C's codes, then the sixteen rows of one op value each, where every test of the decoder compares
two known op values, then the reserved values. -/
theorem opcodeMapNamesItsCommands : Obligations.OpcodeMapNamesItsCommands := by
  intro p c
  refine ⟨fun hop hn => (decode_of_lt_eight p hop).trans (if_pos hn),
    ?_, ?_, ?_, ?_, ?_, ?_, ?_, ?_, ?_, ?_, ?_, ?_, ?_, ?_, ?_, ?_, exists_error_of_reservedOp⟩
  all_goals
    intro hop
    simp [decode, hop]

end Sys2Proof
end

section
/-! PROOF. The byte-order converter (41_byte_order.md R122 to R129): what each command answers, and the bits of its
result word (30_encoding.md R63). -/

namespace Sys2Proof.Machine

/-! ### The result word -/

/-- A pack leaves the word part of `BO_REG` 0, so its result word is the count above its four bytes. -/
theorem packed_res (b0 b1 b2 b3 : Byte) (n : BitVec 3) :
    (packed b0 b1 b2 b3 n).res = 0#29 ++ n ++ (b3 ++ b2 ++ b1 ++ b0) := by
  simp [packed, BoReg.res]

/-- An unpack leaves the bytes and the count of `BO_REG` 0, so its result word is its value. -/
theorem unpacked_res (v : Word) : (unpacked v).res = 0#32 ++ v := by
  simp [unpacked, BoReg.res]

/-- The bits of a pack's result below the count are those of its four lanes. -/
theorem extractLsb'_packed_res {b0 b1 b2 b3 : Byte} {n : BitVec 3} {start len : Nat} (h : start + len ≤ 32) :
    (packed b0 b1 b2 b3 n).res.extractLsb' start len = (b3 ++ b2 ++ b1 ++ b0).extractLsb' start len := by
  rw [packed_res]
  exact BitVec.extractLsb'_append_eq_of_add_le h

/-- A pack's result word from bit 32 up is the count and zeros. -/
theorem extractLsb'_packed_res_of_le {b0 b1 b2 b3 : Byte} {n : BitVec 3} {start len : Nat} (h : 32 ≤ start) :
    (packed b0 b1 b2 b3 n).res.extractLsb' start len = (0#29 ++ n).extractLsb' (start - 32) len := by
  rw [packed_res]
  exact BitVec.extractLsb'_append_eq_of_le h

/-- Byte `j` of a word of four bytes is at bits `8j+7` to `8j` (R60). -/
theorem extractLsb'_four_bytes (b0 b1 b2 b3 : Byte) :
    (b3 ++ b2 ++ b1 ++ b0).extractLsb' 0 8 = b0 ∧ (b3 ++ b2 ++ b1 ++ b0).extractLsb' 8 8 = b1
      ∧ (b3 ++ b2 ++ b1 ++ b0).extractLsb' 16 8 = b2 ∧ (b3 ++ b2 ++ b1 ++ b0).extractLsb' 24 8 = b3 := by
  have skip_byte : ∀ {w} (x : BitVec w) (b : Byte) {start : Nat}, 8 ≤ start →
      (x ++ b).extractLsb' start 8 = x.extractLsb' (start - 8) 8 := fun _ _ => BitVec.extractLsb'_append_eq_of_le
  refine ⟨BitVec.extractLsb'_append_eq_right, ?_, ?_, ?_⟩
  · exact (skip_byte _ b0 (by decide)).trans BitVec.extractLsb'_append_eq_right
  · exact (skip_byte _ b0 (by decide)).trans ((skip_byte _ b1 (by decide)).trans BitVec.extractLsb'_append_eq_right)
  · exact (skip_byte _ b0 (by decide)).trans ((skip_byte _ b1 (by decide)).trans BitVec.extractLsb'_append_eq_left)

theorem packResult_packed (b0 b1 b2 b3 : Byte) (n : BitVec 3) :
    packResult (packed b0 b1 b2 b3 n).res b0 b1 b2 b3 n := by
  obtain ⟨h0, h1, h2, h3⟩ := extractLsb'_four_bytes b0 b1 b2 b3
  exact ⟨(extractLsb'_packed_res (by decide)).trans h0, (extractLsb'_packed_res (by decide)).trans h1,
    (extractLsb'_packed_res (by decide)).trans h2, (extractLsb'_packed_res (by decide)).trans h3,
    (extractLsb'_packed_res_of_le (by decide)).trans BitVec.extractLsb'_append_eq_right,
    (extractLsb'_packed_res_of_le (by decide)).trans BitVec.extractLsb'_append_eq_left⟩

theorem unpackResult_unpacked (v : Word) : unpackResult (unpacked v).res v := by
  rw [unpacked_res]
  exact ⟨BitVec.extractLsb'_append_eq_right, BitVec.extractLsb'_append_eq_left⟩

/-- The low half word of a pack's result is its lanes 1 and 0. -/
theorem packed_res_low16 (b0 b1 b2 b3 : Byte) (n : BitVec 3) :
    (packed b0 b1 b2 b3 n).res.extractLsb' 0 16 = b1 ++ b0 := by
  obtain ⟨h0, h1, -⟩ := packResult_packed b0 b1 b2 b3 n
  have join := BitVec.extractLsb'_append_extractLsb'_eq_extractLsb' (x := (packed b0 b1 b2 b3 n).res)
    (start₂ := 8) (len₂ := 8) (start₁ := 0) (len₁ := 8) rfl
  rw [h0, h1] at join
  exact join.symm

/-- The low word of a pack's result is its four lanes. -/
theorem packed_res_low32 (b0 b1 b2 b3 : Byte) (n : BitVec 3) :
    (packed b0 b1 b2 b3 n).res.extractLsb' 0 32 = b3 ++ b2 ++ b1 ++ b0 :=
  (extractLsb'_packed_res (by decide)).trans BitVec.extractLsb'_eq_self

/-! ### Values and their bytes -/

/-- A 16-bit value is its high byte above its low byte. -/
theorem half_bytes (v : Half) : v.extractLsb' 8 8 ++ v.extractLsb' 0 8 = v :=
  BitVec.extractLsb'_append_extractLsb' (w := 8) (len := 8)

/-- A 32-bit pattern is its four bytes, highest first. -/
theorem word_bytes (v : Word) :
    v.extractLsb' 24 8 ++ v.extractLsb' 16 8 ++ v.extractLsb' 8 8 ++ v.extractLsb' 0 8 = v := by
  have h16 : v.extractLsb' 24 8 ++ v.extractLsb' 16 8 = v.extractLsb' 16 16 :=
    BitVec.extractLsb'_append_extractLsb'_eq_extractLsb' rfl
  have h8 : v.extractLsb' 16 16 ++ v.extractLsb' 8 8 = v.extractLsb' 8 24 :=
    BitVec.extractLsb'_append_extractLsb'_eq_extractLsb' rfl
  rw [h16, h8]
  exact BitVec.extractLsb'_append_extractLsb' (w := 24) (len := 8)

/-- The value the 16-bit unpacks compute (`u16be`, R10), zero-extended: the high byte above the low byte. -/
theorem shift_or_bytes (hi lo : Byte) :
    ((hi.setWidth 16 <<< 8) ||| lo.setWidth 16 : Half).setWidth 32 = 0#16 ++ (hi ++ lo) := by
  rw [← BitVec.setWidth_append_eq_shiftLeft_setWidth_or, BitVec.setWidth_eq, BitVec.setWidth_eq_append (by decide)]
  rfl

/-! ### What each command answers -/

/-- A BO command with the network's output `r` completes from every state and changes no more than its rules say. -/
theorem runBo_eq_boReplied (r : BoReg) (s : State) : runBo r s = .next (boReplied s r) := rfl

section
variable (s : State)

theorem exec_boPack16Be (v : Half) : exec (.boPack16Be v) s
    = .next (boReplied s (packed (v.extractLsb' 8 8) (v.extractLsb' 0 8) 0 0 2)) :=
  runBo_eq_boReplied _ s

theorem exec_boPack16Le (v : Half) : exec (.boPack16Le v) s
    = .next (boReplied s (packed (v.extractLsb' 0 8) (v.extractLsb' 8 8) 0 0 2)) :=
  runBo_eq_boReplied _ s

theorem exec_boPackF32Be (v : Word) : exec (.boPackF32Be v) s = .next (boReplied s
    (packed (v.extractLsb' 24 8) (v.extractLsb' 16 8) (v.extractLsb' 8 8) (v.extractLsb' 0 8) 4)) :=
  runBo_eq_boReplied _ s

theorem exec_boPackF32Le (v : Word) : exec (.boPackF32Le v) s = .next (boReplied s
    (packed (v.extractLsb' 0 8) (v.extractLsb' 8 8) (v.extractLsb' 16 8) (v.extractLsb' 24 8) 4)) :=
  runBo_eq_boReplied _ s

theorem exec_boUnpack16Be (b0 b1 : Byte) : exec (.boUnpack16Be b0 b1) s
    = .next (boReplied s (unpacked (0#16 ++ (b0 ++ b1)))) := by
  rw [← shift_or_bytes]
  exact runBo_eq_boReplied _ s

theorem exec_boUnpack16Le (b0 b1 : Byte) : exec (.boUnpack16Le b0 b1) s
    = .next (boReplied s (unpacked (0#16 ++ (b1 ++ b0)))) := by
  rw [← shift_or_bytes]
  exact runBo_eq_boReplied _ s

theorem exec_boUnpackF32Be (b0 b1 b2 b3 : Byte) : exec (.boUnpackF32Be b0 b1 b2 b3) s
    = .next (boReplied s (unpacked (b0 ++ b1 ++ b2 ++ b3))) :=
  runBo_eq_boReplied _ s

theorem exec_boUnpackF32Le (b0 b1 b2 b3 : Byte) : exec (.boUnpackF32Le b0 b1 b2 b3) s
    = .next (boReplied s (unpacked (b3 ++ b2 ++ b1 ++ b0))) :=
  runBo_eq_boReplied _ s

end

/-! ### The packs and the unpacks -/

/-- Settles O19: the rows of the opcode map, then each order's bytes; little-endian, lanes 1 and 0 are the value. -/
theorem pack16GivesTwoBytes : Obligations.Pack16GivesTwoBytes := by
  intro s v c
  obtain ⟨-, h40, h41, -⟩ := opcodeMapNamesItsCommands s.cfg c
  exact ⟨h40, h41, ⟨_, exec_boPack16Be s v, packResult_packed ..⟩,
    ⟨_, exec_boPack16Le s v, packResult_packed .., (packed_res_low16 ..).trans (half_bytes v)⟩⟩

/-- Settles O20: the rows of the opcode map, then each order's bytes; little-endian, the four lanes are the pattern. -/
theorem packF32GivesFourBytes : Obligations.PackF32GivesFourBytes := by
  intro s v c
  obtain ⟨-, -, -, h42, h43, -⟩ := opcodeMapNamesItsCommands s.cfg c
  exact ⟨h42, h43, ⟨_, exec_boPackF32Be s v, packResult_packed ..⟩,
    ⟨_, exec_boPackF32Le s v, packResult_packed .., (packed_res_low32 ..).trans (word_bytes v)⟩⟩

/-- Settles O21: the rows of the opcode map, then each order's value. -/
theorem unpack16GivesTheValue : Obligations.Unpack16GivesTheValue := by
  intro s b0 b1 c
  obtain ⟨-, -, -, -, -, h44, h45, -⟩ := opcodeMapNamesItsCommands s.cfg c
  exact ⟨h44, h45, ⟨_, exec_boUnpack16Be s b0 b1, unpackResult_unpacked _⟩,
    ⟨_, exec_boUnpack16Le s b0 b1, unpackResult_unpacked _⟩⟩

/-- Settles O22: the rows of the opcode map, then each order's pattern. -/
theorem unpackF32GivesThePattern : Obligations.UnpackF32GivesThePattern := by
  intro s b0 b1 b2 b3 c
  obtain ⟨-, -, -, -, -, -, -, h46, h47, -⟩ := opcodeMapNamesItsCommands s.cfg c
  exact ⟨h46, h47, ⟨_, exec_boUnpackF32Be s b0 b1 b2 b3, unpackResult_unpacked _⟩,
    ⟨_, exec_boUnpackF32Le s b0 b1 b2 b3, unpackResult_unpacked _⟩⟩

end Sys2Proof.Machine
end

section
/-! PROOF. The registry and the frame-length validator (42_length_validator.md R141 to R148). -/

namespace Sys2Proof

/-- What R141 and R142 ask of a registry. -/
theorem RegistryIds.legal_iff (r : RegistryIds) :
    r.legal = true ↔ r.moduleInfoResp = 0x02#8 ∧ r.toList.Nodup ∧ 0x01#8 ∉ r.toList ∧ 0x06#8 ∉ r.toList := by
  simp [RegistryIds.legal, and_assoc]

end Sys2Proof

namespace Sys2Proof.Machine

/-! ### The registry -/

/-- Every id not listed maps to NONE (R142). -/
theorem registry_of_notMem {r : RegistryIds} {id : Byte} (h : id ∉ r.toList) : registry r id = .notRegistered := by
  simp only [RegistryIds.toList, List.mem_cons, List.not_mem_nil, or_false, not_or] at h
  simp [registry, h]

/-- When the ids are distinct, each passes the comparisons with the ids before it and maps to its own category (R142). -/
theorem registry_of_nodup {r : RegistryIds} (h : r.toList.Nodup) :
    registry r r.moduleInfoResp = .moduleInfoResp ∧ registry r r.serialNumberResp = .serialNumberResp
      ∧ registry r r.setConfigDone = .setConfigDone ∧ registry r r.setAcqParamsDone = .setAcqParamsDone
      ∧ registry r r.getAcqParamsResp = .getAcqParamsResp
      ∧ registry r r.getFunctionalModeResp = .getFunctionalModeResp
      ∧ registry r r.dataReport = .dataReport ∧ registry r r.configResponse = .configResponse := by
  have hearlier : r.toList.Pairwise fun a b => b ≠ a := h.imp Ne.symm
  simp only [RegistryIds.toList, List.pairwise_cons, List.forall_mem_cons] at hearlier
  simp [registry, hearlier]

/-- Settles O27: distinct ids have their own categories, and the ids a legal registry leaves out map to NONE. -/
theorem registryMapsTheListedIds : Obligations.RegistryMapsTheListedIds := by
  intro r hlegal
  obtain ⟨hmodule, hnodup, h01, h06⟩ := r.legal_iff.mp hlegal
  obtain ⟨hm, hs, hc, ha, hg, hf, hd, hr⟩ := registry_of_nodup hnodup
  exact ⟨hm, hs, hc, ha, hg, hf, hd, hr, hmodule ▸ hm, registry_of_notMem h01, registry_of_notMem h06,
    fun _ => registry_of_notMem⟩

/-! ### Fixed lengths -/

/-- The statement's exact lengths are those of `FIXED_LEN` (R143). -/
theorem hasItsExactLength_iff (cat : Category) (n : Nat) : hasItsExactLength cat n ↔ fixedLen cat = some n := by
  cases cat <;> simp [hasItsExactLength, fixedLen, eq_comm]

/-- The three categories of no fixed length (R143). -/
theorem fixedLen_eq_none_iff (cat : Category) :
    fixedLen cat = none ↔ cat = .notRegistered ∨ cat = .dataReport ∨ cat = .configResponse := by
  cases cat <;> simp [fixedLen]

theorem isFixed_iff (cat : Category) : isFixed cat ↔ fixedLen cat ≠ none := by
  simp [isFixed, fixedLen_eq_none_iff]

/-- No fixed length is below the frame minimum. -/
theorem five_le_of_fixedLen {cat : Category} {n : Nat} (h : fixedLen cat = some n) : 5 ≤ n := by
  cases cat <;> simp [fixedLen] at h <;> omega

/-! ### The validator, by the branches of R148 -/

section
variable {r : RegistryIds} {id : Byte} {len : Half} {cfg : Byte}

theorem flv_of_lt_five (h : len.toNat < 5) : flv r id len cfg = ⟨false, registry r id, .badLength⟩ := if_pos h

theorem flv_of_notRegistered (h : 5 ≤ len.toNat) (hcat : registry r id = .notRegistered) :
    flv r id len cfg = ⟨false, .notRegistered, .unknownId⟩ := by
  simp [flv, Nat.not_lt.mpr h, hcat]

theorem flv_of_fixedLen {want : Nat} (h : 5 ≤ len.toNat) (hcat : fixedLen (registry r id) = some want) :
    flv r id len cfg = checkFixed (registry r id) want len.toNat := by
  have hreg : registry r id ≠ .notRegistered := ((isFixed_iff _).mpr (by simp [hcat])).1
  simp [flv, Nat.not_lt.mpr h, hreg, hcat]

theorem flv_of_dataReport (h : 5 ≤ len.toNat) (hcat : registry r id = .dataReport) :
    flv r id len cfg = checkData len.toNat := by
  simp [flv, Nat.not_lt.mpr h, hcat, fixedLen]

theorem flv_of_configResponse (h : 5 ≤ len.toNat) (hcat : registry r id = .configResponse) :
    flv r id len cfg = checkConfig len.toNat cfg := by
  simp [flv, Nat.not_lt.mpr h, hcat, fixedLen]

end

/-- Settles O26: below the frame minimum every id is refused alike; from it on, whether the category has a fixed length,
and which of the three others it is, selects the check whose comparisons are then decided in R148's order. -/
theorem flvAcceptsByCategoryAndLength : Obligations.FlvAcceptsByCategoryAndLength := by
  intro r id len cfg cat v
  refine ⟨flv_cat r id len cfg, ?_⟩
  simp only [hasItsExactLength_iff, isFixed_iff, cat, v]
  by_cases hlen : len.toNat < 5
  · have hexact : fixedLen (registry r id) ≠ some len.toNat := fun h => absurd (five_le_of_fixedLen h) (by omega)
    simp [flv_of_lt_five hlen, hexact]
    omega
  have h5 : 5 ≤ len.toNat := Nat.le_of_not_lt hlen
  cases hfix : fixedLen (registry r id) with
  | some want =>
    obtain ⟨hnone, hdata, hconfig⟩ := (isFixed_iff (registry r id)).mpr (by simp [hfix])
    rw [flv_of_fixedLen h5 hfix]
    by_cases hwant : len.toNat = want
    · simp [checkFixed, hwant, hnone, hdata, hconfig]
      omega
    · simp [checkFixed, hwant, Ne.symm hwant, h5, hnone, hdata, hconfig]
  | none =>
    rcases (fixedLen_eq_none_iff _).mp hfix with hcat | hcat | hcat
    · simp [flv_of_notRegistered h5 hcat, hcat, h5]
    · rw [flv_of_dataReport h5 hcat]
      by_cases h6 : 6 ≤ len.toNat <;> simp [checkData, hcat, h6] <;> omega
    · rw [flv_of_configResponse h5 hcat]
      by_cases h7 : len.toNat < 7
      · simp [checkConfig, hcat, h7]
        omega
      by_cases hcfg : cfg = 0x01#8
      · by_cases h10 : len.toNat < 10 <;> simp [checkConfig, hcat, h7, hcfg, h10] <;> omega
      · simp [checkConfig, hcat, h7, hcfg]
        omega

end Sys2Proof.Machine
end

section
/-! PROOF. The reassembler's commands `RA.STATUS`, `RA.EVPOP` and `RA.PUSH` on an overflow (43_reassembler.md R163, R185,
R186), with the words they answer: `STATUS` (10_state.md R29) and an event's header (30_encoding.md R70). -/

namespace Sys2Proof.Machine

open BitVec (extractLsb'_append_eq_left extractLsb'_append_eq_right)

/-! ### Fields of a concatenation -/

/-- A field that starts above the low part of a word is a field of its high part. -/
theorem extract_above {v w start len : Nat} {hi : BitVec v} {lo : BitVec w} {field : BitVec len}
    (h : hi.extractLsb' (start - w) len = field) (hw : w ≤ start := by decide) :
    (hi ++ lo).extractLsb' start len = field :=
  (BitVec.extractLsb'_append_eq_of_le hw).trans h

/-- A flag is the bit at its one-bit field. -/
theorem getLsbD_of_extractLsb' {w i : Nat} {x : BitVec w} {b : Bool} (h : x.extractLsb' i 1 = BitVec.ofBool b) :
    x.getLsbD i = b := by
  simpa using congrArg (BitVec.getLsbD · 0) h

/-- Each flag of `STATUS` is at its bit (R29). -/
theorem status_bits (s : State) :
    s.status.getLsbD 0 = s.skip ∧ s.status.getLsbD 1 = s.busy ∧ s.status.getLsbD 2 = s.evqNe
      ∧ s.status.getLsbD 3 = s.evqFull ∧ s.status.getLsbD 4 = s.errIllop ∧ s.status.getLsbD 5 = s.errOvf
      ∧ s.status.extractLsb' 6 2 = 0 :=
  ⟨getLsbD_of_extractLsb' extractLsb'_append_eq_right,
    getLsbD_of_extractLsb' (extract_above extractLsb'_append_eq_right),
    getLsbD_of_extractLsb' (extract_above (extract_above extractLsb'_append_eq_right)),
    getLsbD_of_extractLsb' (extract_above (extract_above (extract_above extractLsb'_append_eq_right))),
    getLsbD_of_extractLsb'
      (extract_above (extract_above (extract_above (extract_above extractLsb'_append_eq_right)))),
    getLsbD_of_extractLsb'
      (extract_above (extract_above (extract_above (extract_above (extract_above extractLsb'_append_eq_right))))),
    extract_above (extract_above (extract_above (extract_above (extract_above extractLsb'_append_eq_left))))⟩

/-- A byte that holds nothing from bit 6 up holds nothing there as a result word. -/
theorem extractLsb'_setWidth_byte {x : Byte} (h : x.extractLsb' 6 2 = 0) :
    (x.setWidth 64).extractLsb' 6 58 = 0 := by
  have hsmall := congrArg BitVec.toNat h
  apply BitVec.eq_of_toNat_eq
  simp only [BitVec.extractLsb'_toNat, Nat.shiftRight_eq_div_pow, Nat.reducePow, BitVec.ofNat_eq_ofNat,
    BitVec.toNat_ofNat, Nat.zero_mod, BitVec.toNat_setWidth] at hsmall ⊢
  omega

/-- Each field of an event's header word is at its bits (R70). -/
theorem eventHeader_fields (e : Event) :
    (eventHeader e).getLsbD 0 = true ∧ (eventHeader e).extractLsb' 1 8 = e.id
      ∧ (eventHeader e).extractLsb' 9 16 = e.length ∧ (eventHeader e).extractLsb' 25 16 = e.crcExpected
      ∧ (eventHeader e).getLsbD 41 = e.crcError
      ∧ (eventHeader e).extractLsb' 42 4 = categoryCode e.category ∧ (eventHeader e).extractLsb' 46 18 = 0 :=
  ⟨getLsbD_of_extractLsb' extractLsb'_append_eq_right,
    extract_above extractLsb'_append_eq_right,
    extract_above (extract_above extractLsb'_append_eq_right),
    extract_above (extract_above (extract_above extractLsb'_append_eq_right)),
    getLsbD_of_extractLsb'
      (extract_above (extract_above (extract_above (extract_above extractLsb'_append_eq_right)))),
    extract_above (extract_above (extract_above (extract_above (extract_above extractLsb'_append_eq_right)))),
    extract_above (extract_above (extract_above (extract_above (extract_above extractLsb'_append_eq_left))))⟩

/-! ### The flags -/

theorem busy_iff_ne_idle (s : State) : s.busy = true ↔ s.sc ≠ .idle := by
  rw [ne_eq, ← not_busy_iff, Bool.not_eq_false]

theorem evqNe_iff (s : State) : s.evqNe = true ↔ 0 < s.evq.length := decide_eq_true_iff

theorem evqFull_iff (s : State) : s.evqFull = true ↔ s.evq.length = s.cfg.evqDepth := decide_eq_true_iff

/-! ### The commands -/

/-- Settles O32: the row of the opcode map, then each bit of the result word is that of `STATUS`. -/
theorem raStatusReadsTheStatusBits : Obligations.RaStatusReadsTheStatusBits := by
  intro s c
  obtain ⟨-, -, -, -, -, -, -, -, -, -, -, -, hC2, -⟩ := opcodeMapNamesItsCommands s.cfg c
  obtain ⟨hskip, hbusy, hne, hfull, hillop, hovf, hhigh⟩ := status_bits s
  have hbit : ∀ i < 8, (s.status.setWidth 64).getLsbD i = s.status.getLsbD i := fun i hi => by
    have hi64 : i < 64 := by omega
    simp [hi64]
  refine ⟨hC2, s.status.setWidth 64, rfl, ?_, ?_, ?_, ?_, ?_, ?_, extractLsb'_setWidth_byte hhigh⟩
  · rw [hbit 0 (by decide), hskip]
  · rw [hbit 1 (by decide), hbusy, busy_iff_ne_idle]
  · rw [hbit 2 (by decide), hne, evqNe_iff]
  · rw [hbit 3 (by decide), hfull, evqFull_iff]
  · rw [hbit 4 (by decide), hillop]
  · rw [hbit 5 (by decide), hovf]

theorem exec_raEvpop_of_nil {s : State} (h : s.evq = []) : exec .raEvpop s = .next (replied s ⟨0, [], none⟩) := by
  rcases execRaEvpop_cases s with ⟨-, hexec⟩ | ⟨_, _, hcons, -⟩
  · exact hexec
  · simp [h] at hcons

theorem exec_raEvpop_of_cons {s : State} {ev : Event} {evs : List Event} (h : s.evq = ev :: evs) :
    exec .raEvpop s = .next { replied s ⟨eventHeader ev, ev.bytes, none⟩ with evq := evs } := by
  rcases execRaEvpop_cases s with ⟨hnil, -⟩ | ⟨_, _, hcons, hexec⟩
  · simp [h] at hnil
  · obtain ⟨rfl, rfl⟩ := List.cons.inj (h.symm.trans hcons)
    refine hexec.trans ?_
    simp [complete, dropEvent, replied, h]

/-- Settles O36: the row of the opcode map, then `EVQ` empty or with an oldest event, whose header's fields are read. -/
theorem raEvpopTakesTheOldestEvent : Obligations.RaEvpopTakesTheOldestEvent := by
  intro s c
  obtain ⟨-, -, -, -, -, -, -, -, -, -, -, -, -, -, -, -, hC6, -⟩ := opcodeMapNamesItsCommands s.cfg c
  exact ⟨hC6, exec_raEvpop_of_nil, fun ev _ hq => ⟨eventHeader ev, exec_raEvpop_of_cons hq, eventHeader_fields ev⟩⟩

/-- The model's overflow test is R163's condition. -/
theorem workOverflow_iff (s : State) (n : Nat) :
    workOverflow s.cfg (s.pend.length + n) = true ↔ overflowsWork s n := by
  unfold workOverflow overflowsWork
  cases s.cfg.crcSlice <;> cases s.cfg.workCap <;> simp

/-- Idle and with its bytes on the stream, `RA.PUSH` takes them as its chunk (R162). -/
theorem exec_raPush_of_idle {s : State} {n : Word} (hidle : s.busy = false) (hbytes : n.toNat ≤ s.stream.length) :
    exec (.raPush n) s = .next (complete (plainReply 0)
      (pushChunk (s.stream.take n.toNat) { s with stream := s.stream.drop n.toNat })) := by
  rcases execRaPush_cases n s with ⟨hheld, -⟩ | ⟨-, -, h⟩
  · simp [pushHolds, hidle, Nat.not_lt.mpr hbytes] at hheld
  · exact h

/-- Past WORK_CAP, the pending bytes and the chunk are discarded (R163). -/
theorem pushChunk_of_workOverflow {s : State} {chunk : List Byte}
    (h : workOverflow s.cfg (s.pend ++ chunk).length = true) :
    pushChunk chunk s = { s with pend := [], sc := .idle, errOvf := true } :=
  if_pos h

/-- Settles O29: in BUFFER_END mode the overflow test decides; in PER_FRAME mode it never holds. -/
theorem raPushOverflowsTheWorkingBuffer : Obligations.RaPushOverflowsTheWorkingBuffer := by
  intro s n hidle hbytes
  have hexec := exec_raPush_of_idle hidle hbytes
  have hlen : (s.pend ++ s.stream.take n.toNat).length = s.pend.length + n.toNat := by simp [hbytes]
  refine ⟨fun hover => ?_, fun hmode => ⟨_, hexec, ?_, ?_⟩⟩
  · rw [hexec, pushChunk_of_workOverflow (by rw [hlen]; exact (workOverflow_iff s n.toNat).mpr hover)]
    rfl
  · simp [workOverflow, hmode]
  · simp [busy_iff, workOverflow, hmode]

end Sys2Proof.Machine
end

section
/-! PROOF. The scan step against its text, when it counts and when it holds (43_reassembler.md R167 to R171). -/

namespace Sys2Proof.Machine

/-! ### The decision, branch by branch (R168) -/

section
variable {p : Params} {skip : Bool} {w : List Byte} {cur : Nat}

theorem scanDecision_of_short (h : w.length - cur < 2) : scanDecision p skip w cur = .finish := if_pos h

theorem scanDecision_of_incomplete (h2 : ¬ w.length - cur < 2) (hL : w.length < cur + (u16be w cur).toNat) :
    scanDecision p skip w cur = .finish :=
  (if_neg h2).trans (if_pos hL)

theorem scanDecision_of_lt_five (h2 : ¬ w.length - cur < 2) (hL : ¬ w.length < cur + (u16be w cur).toNat)
    (h5 : (u16be w cur).toNat < 5) :
    scanDecision p skip w cur = .reject (if (u16be w cur).toNat = 0 then .zeroLength else .shortLength) :=
  (if_neg h2).trans ((if_neg hL).trans (if_pos h5))

theorem scanDecision_of_five_le (h2 : ¬ w.length - cur < 2) (hL : ¬ w.length < cur + (u16be w cur).toNat)
    (h5 : ¬ (u16be w cur).toNat < 5) :
    scanDecision p skip w cur = judgeFrame p skip (slice w cur (cur + (u16be w cur).toNat)) (u16be w cur)
      (crcTest p.crcSlice w cur (u16be w cur).toNat) :=
  (if_neg h2).trans ((if_neg hL).trans (if_neg h5))

end

section
variable {p : Params} {skip : Bool} {f : List Byte} {len computed : Half}

theorem judgeFrame_of_mismatch (h : (computed != frameTrailer f len.toNat) = true ∧ skip = true) :
    judgeFrame p skip f len computed = .reject .checksum :=
  if_pos (Bool.and_eq_true_iff.mpr h)

theorem judgeFrame_of_invalid (h : ¬ ((computed != frameTrailer f len.toNat) = true ∧ skip = true))
    (hok : (flv p.ids (frameId f) len (frameCfg f)).ok = false) :
    judgeFrame p skip f len computed = .reject (.validator (flv p.ids (frameId f) len (frameCfg f)).reason) :=
  (if_neg (mt Bool.and_eq_true_iff.mp h)).trans (if_neg (by simp [hok]))

theorem judgeFrame_of_valid (h : ¬ ((computed != frameTrailer f len.toNat) = true ∧ skip = true))
    (hok : ¬ (flv p.ids (frameId f) len (frameCfg f)).ok = false) :
    judgeFrame p skip f len computed = .accept
      (eventOf f len (computed != frameTrailer f len.toNat) (flv p.ids (frameId f) len (frameCfg f)).cat) :=
  (if_neg (mt Bool.and_eq_true_iff.mp h)).trans (if_pos (by simpa using hok))

end

/-! ### The step, decision by decision -/

section
variable {s : State} {w : List Byte} {cur : Nat}

theorem scanStep_of_finish (hsc : s.sc = .scan w cur) (hd : scanDecision s.cfg s.skip w cur = .finish) :
    scanStep s = finishScan w cur s := by
  simp [scanStep, hsc, hd]

theorem scanStep_of_reject {cause : RejectCause} (hsc : s.sc = .scan w cur)
    (hd : scanDecision s.cfg s.skip w cur = .reject cause) : scanStep s = rejectCandidate w cur cause s := by
  simp [scanStep, hsc, hd]

theorem scanStep_of_accept {ev : Event} (hsc : s.sc = .scan w cur)
    (hd : scanDecision s.cfg s.skip w cur = .accept ev) :
    scanStep s = if s.evqFull then s else acceptFrame w cur ev s := by
  simp [scanStep, hsc, hd]

/-- The model's `Finish` is R170's text. -/
theorem finishScan_eq_finished (w : List Byte) (cur : Nat) (s : State) : finishScan w cur s = finished s w cur := by
  simp only [finishScan, finished, slice_to_end]
  rfl

/-- The step at a cursor is that of R168's text, branch by branch: fewer than 2 bytes left, an incomplete candidate, a
length below 5, a checksum refused by the policy, a frame the validator refuses, a frame to emit. -/
theorem scanStep_eq_scanStepText (hsc : s.sc = .scan w cur) : scanStep s = scanStepText s w cur := by
  unfold scanStepText
  by_cases h2 : w.length - cur < 2
  · rw [if_pos h2, scanStep_of_finish hsc (scanDecision_of_short h2), finishScan_eq_finished]
  rw [if_neg h2]
  dsimp only
  by_cases hL : w.length < cur + (u16be w cur).toNat
  · rw [if_pos hL, scanStep_of_finish hsc (scanDecision_of_incomplete h2 hL), finishScan_eq_finished]
  rw [if_neg hL]
  by_cases h5 : (u16be w cur).toNat < 5
  · rw [if_pos h5, scanStep_of_reject hsc (scanDecision_of_lt_five h2 hL h5)]
    by_cases h0 : u16be w cur = 0
    · simp [h0, rejectCandidate, RejectCause.counted]
    · have hnat : (u16be w cur).toNat ≠ 0 := by simpa using mt BitVec.eq_of_toNat_eq h0
      rw [if_neg hnat, if_pos h0]
      rfl
  rw [if_neg h5]
  have hjudge := scanDecision_of_five_le (p := s.cfg) (skip := s.skip) h2 hL h5
  by_cases herr : (crcTest s.cfg.crcSlice w cur (u16be w cur).toNat
      != frameTrailer (slice w cur (cur + (u16be w cur).toNat)) (u16be w cur).toNat) = true ∧ s.skip = true
  · rw [if_pos herr, scanStep_of_reject hsc (hjudge.trans (judgeFrame_of_mismatch herr))]
    rfl
  rw [if_neg herr]
  split
  · rename_i hok
    rw [scanStep_of_reject hsc (hjudge.trans (judgeFrame_of_invalid herr hok))]
    rfl
  · rename_i hok
    rw [scanStep_of_accept hsc (hjudge.trans (judgeFrame_of_valid herr hok)), State.evqFull]
    simp only [decide_eq_true_eq]
    rfl

/-! ### The hold (R171) and the count (R167) -/

theorem scanHeld_of_reject {cause : RejectCause} (hsc : s.sc = .scan w cur)
    (hd : scanDecision s.cfg s.skip w cur = .reject cause) : scanHeld s = false := by
  simp [scanHeld, hsc, hd]

/-- A step that would emit holds exactly while `EVQ` is full. -/
theorem scanHeld_eq_evqFull_of_accept {ev : Event} (hsc : s.sc = .scan w cur)
    (hd : scanDecision s.cfg s.skip w cur = .accept ev) : scanHeld s = s.evqFull := by
  simp [scanHeld, hsc, hd]

/-- At an accepted candidate the scanner has a step exactly while `EVQ` has room. -/
theorem scanReady_of_accept {ev : Event} (hsc : s.sc = .scan w cur)
    (hd : scanDecision s.cfg s.skip w cur = .accept ev) : scanReady s = !s.evqFull := by
  have hbusy : s.busy = true := (busy_iff s).mpr ⟨w, cur, hsc⟩
  rw [scanReady, hbusy, scanHeld_eq_evqFull_of_accept hsc hd, Bool.true_and]

/-- R167: a step counts what it rejects with `L != 0` and what it emits. -/
theorem scanStep_fcount (hsc : s.sc = .scan w cur) :
    (scanStep s).fcount =
      if 2 ≤ w.length - cur ∧ cur + (u16be w cur).toNat ≤ w.length ∧ u16be w cur ≠ 0 ∧ scanHeld s = false
      then s.fcount + 1 else s.fcount := by
  rcases scanDecision_cases s.cfg s.skip w cur with ⟨hd, hguard⟩ | ⟨cause, hd, h2, hL, hcounted⟩
    | ⟨err, hd, h5, hL, -⟩
  · have hnot : ¬ (2 ≤ w.length - cur ∧ cur + (u16be w cur).toNat ≤ w.length) := by omega
    rw [scanStep_of_finish hsc hd, finishScan_fcount, if_neg (fun h => hnot ⟨h.1, h.2.1⟩)]
  · have hheld : scanHeld s = false := scanHeld_of_reject hsc hd
    rw [scanStep_of_reject hsc hd, rejectCandidate_fcount]
    have hnonzero : u16be w cur ≠ 0 ↔ cause.counted = true := by rw [ne_eq, ← hcounted, Bool.not_eq_false]
    simp only [h2, hL, hheld, hnonzero, true_and, and_true]
  · have h2 : 2 ≤ w.length - cur := by simp only [minFrameLen] at h5; omega
    have h0 : u16be w cur ≠ 0 := fun h => by simp [h] at h5
    have hheld : scanHeld s = s.evqFull := scanHeld_eq_evqFull_of_accept hsc hd
    rw [scanStep_of_accept hsc hd]
    cases hfull : s.evqFull with
    | true => simp [hheld, hfull]
    | false => exact (if_pos ⟨h2, hL, h0, hheld.trans hfull⟩).symm

end

/-! ### The statements on the scan step -/

/-- Settles O38: the scan step by the branches of its text; the two CRC tests are `crcTest`'s own cases. -/
theorem scanStepFollowsItsText : Obligations.ScanStepFollowsItsText :=
  ⟨fun _ _ _ => scanStep_eq_scanStepText, fun _ _ _ => ⟨rfl, rfl⟩⟩

/-- Settles O39: while the candidate is accepted, the scanner has a step exactly when `EVQ` has room; a pop
makes room. -/
theorem fullFifoHoldsTheScanner : Obligations.FullFifoHoldsTheScanner := by
  intro s w cur ev hsc hd hlen hdepth
  have hfull : s.evqFull = true := (evqFull_iff s).mpr hlen
  have hstays : scanStep s = s := by rw [scanStep_of_accept hsc hd, if_pos hfull]
  have hwaits : scanReady s = false := by rw [scanReady_of_accept hsc hd, hfull, Bool.not_true]
  obtain ⟨oldest, evs, hcons⟩ : ∃ oldest evs, s.evq = oldest :: evs :=
    List.exists_cons_of_length_pos (by omega)
  have hroom : evs.length ≠ s.cfg.evqDepth := by
    rw [hcons, List.length_cons] at hlen
    omega
  exact ⟨hstays, hwaits, _, exec_raEvpop_of_cons hcons,
    Eq.trans (scanReady_of_accept hsc hd) (congrArg Bool.not (decide_eq_false hroom))⟩

/-- Settles O40: the count of one scan step, by what the step decides. -/
theorem completeCandidatesAreCountedOnce : Obligations.CompleteCandidatesAreCountedOnce :=
  fun _ _ _ => scanStep_fcount

end Sys2Proof.Machine
end

section
/-! PROOF. The reset cycle (10_state.md R33, 70_reset_and_hazards.md R230). -/

namespace Sys2Proof.Machine

section
variable {s : State}

/-- Reset comes before the scanner and the host, whatever either could do. -/
theorem nextMove_of_rst (h : s.rst = true) : nextMove s = .reset := by
  rw [nextMove, if_pos h]

/-- No command is taken while `rst = 1`, whichever move the port would make. -/
theorem cmdReady_of_rst (h : s.rst = true) : s.cmdReady = false := by
  unfold State.cmdReady
  cases hostMove s <;> simp [h]

/-- No chunk byte is taken while `rst = 1`: only a command's arm could raise `chk_ready`. -/
theorem chkReady_of_rst (h : s.rst = true) : s.chkReady = false := by
  unfold State.chkReady
  cases hostMove s with
  | command i => simp [h]
  | _ => rfl

theorem step_of_rst (h : s.rst = true) : step s = .next (resetBlock (settle s)) := by
  rw [step, nextMove_of_rst h]

end

/-- Settles O10: both outputs are 0, and the step is `resetBlock`, which sets R33's table and leaves the host's commands
and stream to the host. -/
theorem resetCycleAppliesTheTable : Obligations.ResetCycleAppliesTheTable :=
  fun s h => ⟨cmdReady_of_rst h, chkReady_of_rst h, resetBlock (settle s), step_of_rst h,
    rfl, rfl, rfl, rfl, rfl, rfl, rfl, rfl, rfl, rfl, rfl⟩

end Sys2Proof.Machine
end

section
/-! PROOF. The decoder and the encoder (30_encoding.md §2, §4): the round trip, the op byte, ignored bits, the gaps of
the map (R62 to R67, R78). -/

namespace Sys2Proof

/-! ### The lanes of `din` (R60) -/

/-- Lane 0 holds the first byte written. -/
theorem lane_ofLanes_zero (b : Byte) (bs : List Byte) : lane (ofLanes (b :: bs)) 0 = b := by
  refine BitVec.eq_of_getLsbD_eq fun i hi => ?_
  have h64 : i < 64 := by omega
  simp [lane, ofLanes, hi, h64]

/-- Each further lane inside the word holds the bytes after the first. -/
theorem lane_ofLanes_succ (b : Byte) (bs : List Byte) {j : Nat} (hj : j + 1 < 8) :
    lane (ofLanes (b :: bs)) (j + 1) = lane (ofLanes bs) j := by
  refine BitVec.eq_of_getLsbD_eq fun i hi => ?_
  have h64 : 8 * (j + 1) + i < 64 := by omega
  have hshift : 8 * (j + 1) + i - 8 = 8 * j + i := by omega
  have hpast : ¬ 8 * (j + 1) + i < 8 := by omega
  have hbyte : b.getLsbD (8 * (j + 1) + i) = false := BitVec.getLsbD_of_ge _ _ (by omega)
  rw [lane, BitVec.getLsbD_extractLsb', lane, BitVec.getLsbD_extractLsb', ofLanes, BitVec.getLsbD_or,
    BitVec.getLsbD_shiftLeft, BitVec.getLsbD_setWidth, hbyte, hshift]
  simp [hi, h64, hpast]

/-- The lanes of at most eight bytes are those bytes. -/
theorem lanes_ofLanes {d : List Byte} (h : d.length ≤ 8) : lanes (ofLanes d) d.length = d := by
  induction d with
  | nil => rfl
  | cons b bs ih =>
    rw [List.length_cons] at h
    have hlater : (List.range bs.length).map (fun j => lane (ofLanes (b :: bs)) (j + 1))
        = lanes (ofLanes bs) bs.length :=
      List.map_congr_left fun j hj => lane_ofLanes_succ b bs (by have := List.mem_range.mp hj; omega)
    rw [List.length_cons, lanes, List.range_succ_eq_map, List.map_cons, List.map_map, lane_ofLanes_zero]
    exact congrArg (b :: ·) (hlater.trans (ih (by omega)))

/-- The bytes of a 32-bit unpack are at its first four lanes. -/
theorem lane_ofLanes_four (b0 b1 b2 b3 : Byte) :
    lane (ofLanes [b0, b1, b2, b3]) 0 = b0 ∧ lane (ofLanes [b0, b1, b2, b3]) 1 = b1
      ∧ lane (ofLanes [b0, b1, b2, b3]) 2 = b2 ∧ lane (ofLanes [b0, b1, b2, b3]) 3 = b3 := by
  have h := lanes_ofLanes (d := [b0, b1, b2, b3]) (by simp)
  simpa [lanes, List.range_succ] using h

/-- The bytes of a 16-bit unpack are at its first two lanes. -/
theorem lane_ofLanes_two (b0 b1 : Byte) : lane (ofLanes [b0, b1]) 0 = b0 ∧ lane (ofLanes [b0, b1]) 1 = b1 := by
  have h := lanes_ofLanes (d := [b0, b1]) (by simp)
  simpa [lanes, List.range_succ] using h

/-! ### The fields of `arg` -/

/-- A half word written to `arg[15:0]` is read back. -/
theorem extractLsb'_setWidth_half (v : Half) : (v.setWidth 32).extractLsb' 0 16 = v := by
  refine BitVec.eq_of_getLsbD_eq fun i hi => ?_
  have h32 : i < 32 := by omega
  simp [hi, h32]

/-- The three operands of `FLV.CHECK` (R65) are read back from `arg`. -/
theorem extractLsb'_flv_arg (id : Byte) (len : Half) (cfg : Byte) :
    (cfg ++ len ++ id).extractLsb' 0 8 = id ∧ (cfg ++ len ++ id).extractLsb' 8 16 = len
      ∧ (cfg ++ len ++ id).extractLsb' 24 8 = cfg :=
  ⟨BitVec.extractLsb'_append_eq_right,
    (BitVec.extractLsb'_append_eq_of_le (by decide)).trans BitVec.extractLsb'_append_eq_right,
    (BitVec.extractLsb'_append_eq_of_le (by decide)).trans BitVec.extractLsb'_append_eq_left⟩

/-! ### The round trip -/

/-- Format C: the op byte of a fold of 1 to 8 bytes is their number less one. -/
theorem decode_encode_crcFold {p : Params} {crcIn : Half} {d : List Byte} (h : WellFormed p (.crcFold crcIn d) = true) :
    decode p (encode (.crcFold crcIn d)) = .ok (.crcFold crcIn d) := by
  simp only [WellFormed, Bool.and_eq_true, decide_eq_true_eq] at h
  obtain ⟨⟨hpos, h8⟩, hunroll⟩ := h
  have hop : (encode (.crcFold crcIn d)).op.toNat = d.length - 1 := Nat.mod_eq_of_lt (by omega)
  have hn : d.length - 1 + 1 = d.length := by omega
  rw [decode_of_lt_eight p (by omega), hop, hn, if_pos hunroll]
  simp only [encode, extractLsb'_setWidth_half, lanes_ofLanes h8]

/-- Settles O1: format C by its count and lanes; every other command by its row of the opcode map, whose operand fields
are read back from where the encoder put them. -/
theorem decodeEncodeRoundTrip : Obligations.DecodeEncodeRoundTrip := by
  intro p i hwf
  obtain ⟨-, h40, h41, h42, h43, h44, h45, h46, h47, h80, hC0, hC1, hC2, hC3, hC4, hC5, hC6, -⟩ :=
    opcodeMapNamesItsCommands p (encode i)
  cases i with
  | crcFold crcIn d => exact decode_encode_crcFold hwf
  | boPack16Be v => exact (h40 rfl).trans (congrArg (Except.ok <| Instr.boPack16Be ·) (extractLsb'_setWidth_half v))
  | boPack16Le v => exact (h41 rfl).trans (congrArg (Except.ok <| Instr.boPack16Le ·) (extractLsb'_setWidth_half v))
  | boPackF32Be v => exact h42 rfl
  | boPackF32Le v => exact h43 rfl
  | boUnpack16Be b0 b1 =>
    obtain ⟨e0, e1⟩ := lane_ofLanes_two b0 b1
    rw [h44 rfl]; simp only [encode, e0, e1]
  | boUnpack16Le b0 b1 =>
    obtain ⟨e0, e1⟩ := lane_ofLanes_two b0 b1
    rw [h45 rfl]; simp only [encode, e0, e1]
  | boUnpackF32Be b0 b1 b2 b3 =>
    obtain ⟨e0, e1, e2, e3⟩ := lane_ofLanes_four b0 b1 b2 b3
    rw [h46 rfl]; simp only [encode, e0, e1, e2, e3]
  | boUnpackF32Le b0 b1 b2 b3 =>
    obtain ⟨e0, e1, e2, e3⟩ := lane_ofLanes_four b0 b1 b2 b3
    rw [h47 rfl]; simp only [encode, e0, e1, e2, e3]
  | flvCheck id len cfg =>
    obtain ⟨eid, elen, ecfg⟩ := extractLsb'_flv_arg id len cfg
    rw [h80 rfl]; simp only [encode, eid, elen, ecfg]
  | raPush n => exact hC0 rfl
  | raSetpol skip => rw [hC1 rfl]; cases skip <;> rfl
  | raStatus => exact hC2 rfl
  | raCount => exact hC3 rfl
  | raPendlen => exact hC4 rfl
  | raClear => exact hC5 rfl
  | raEvpop => exact hC6 rfl

/-! ### The op byte of a decoded command -/

/-- Format C names a command whose op byte is the transaction's. -/
theorem op_encode_of_decodeFold {p : Params} {c : Command} {i : Instr} (hop : c.op.toNat < 0x08)
    (h : decodeFold p c = .ok i) : (encode i).op = c.op := by
  unfold decodeFold at h
  dsimp only at h
  split at h
  · cases h
    simp only [encode, length_lanes, toNat_extractLsb'_of_lt_eight hop, Nat.add_sub_cancel, BitVec.ofNat_toNat,
      BitVec.setWidth_eq]
  · cases h

/-- One row of the opcode map: its command's op byte is the row's, and the rows after it keep the op byte too. -/
theorem op_encode_of_row {op code : Byte} {i j : Instr} {rest : Except Reject Instr} (hj : (encode j).op = code)
    (hrest : rest = .ok i → (encode i).op = op) (h : (if op = code then .ok j else rest) = .ok i) :
    (encode i).op = op := by
  by_cases hrow : op = code
  · rw [if_pos hrow] at h
    cases h
    exact hj.trans hrow.symm
  · rw [if_neg hrow] at h
    exact hrest h

theorem op_encode_of_decode {p : Params} {c : Command} {i : Instr} (h : decode p c = .ok i) : (encode i).op = c.op := by
  revert h
  unfold decode
  by_cases hfold : c.op &&& 0xF8#8 = 0x00#8
  · rw [if_pos hfold]
    exact op_encode_of_decodeFold ((op_and_F8_eq_zero_iff c.op).mp hfold)
  · rw [if_neg hfold]
    iterate 16 refine op_encode_of_row rfl ?_
    exact nofun

/-- Settles O2: row by row of the decoder. -/
theorem decodedCommandsAreWellFormed : Obligations.DecodedCommandsAreWellFormed :=
  fun _ _ _ h => ⟨wellFormed_of_decode h, op_encode_of_decode h⟩

/-! ### Ignored bits and reserved codes -/

/-- One row of the decoder: two transactions decode alike if they do on the row and past it. -/
theorem row_congr {row : Prop} [Decidable row] {a a' rest rest' : Except Reject Instr} (hrow : row → a = a')
    (hrest : rest = rest') : (if row then a else rest) = if row then a' else rest' := by
  by_cases h : row
  · rw [if_pos h, if_pos h, hrow h]
  · rw [if_neg h, if_neg h, hrest]

/-- Settles O3: both transactions take the same branch of the decoder, and its operands are the bits they agree on. -/
theorem ignoredOperandBitsHaveNoEffect : Obligations.IgnoredOperandBitsHaveNoEffect := by
  intro p c c' hop hused
  obtain ⟨hfold, hhalf, hword, htwo, hfour, hbit⟩ := hused
  unfold decode
  rw [← hop]
  refine row_congr (fun h => ?_) ?_
  · obtain ⟨harg, hlane⟩ := hfold ((op_and_F8_eq_zero_iff c.op).mp h)
    have hlanes : lanes c.din ((c.op.extractLsb' 0 3).toNat + 1) = lanes c'.din ((c.op.extractLsb' 0 3).toNat + 1) :=
      List.map_congr_left fun j hj => hlane j (Nat.le_of_lt_succ (List.mem_range.mp hj))
    simp only [decodeFold, ← hop, harg, hlanes]
  refine row_congr (fun h => ?_) ?_
  · rw [hhalf (.inl h)]
  refine row_congr (fun h => ?_) ?_
  · rw [hhalf (.inr h)]
  refine row_congr (fun h => ?_) ?_
  · rw [hword (.inl h)]
  refine row_congr (fun h => ?_) ?_
  · rw [hword (.inr (.inl h))]
  refine row_congr (fun h => ?_) ?_
  · obtain ⟨h0, h1⟩ := htwo (.inl h)
    rw [h0, h1]
  refine row_congr (fun h => ?_) ?_
  · obtain ⟨h0, h1⟩ := htwo (.inr h)
    rw [h0, h1]
  refine row_congr (fun h => ?_) ?_
  · have hl := hfour (.inl h)
    rw [hl 0 (by decide), hl 1 (by decide), hl 2 (by decide), hl 3 (by decide)]
  refine row_congr (fun h => ?_) ?_
  · have hl := hfour (.inr h)
    rw [hl 0 (by decide), hl 1 (by decide), hl 2 (by decide), hl 3 (by decide)]
  refine row_congr (fun h => ?_) ?_
  · rw [hword (.inr (.inr (.inl h)))]
  refine row_congr (fun h => ?_) ?_
  · rw [hword (.inr (.inr (.inr h)))]
  refine row_congr (fun h => ?_) ?_
  · rw [hbit h]
  rfl

/-- An op value on no row of the opcode map (R78) is in one of the reserved ranges (R64). -/
theorem reservedOp_of_off_rows {p : Params} {op : Byte} (hfold : ¬ (op.toNat < 0x08 ∧ op.toNat + 1 ≤ p.crcUnroll))
    (hbo : op ≠ 0x40#8 ∧ op ≠ 0x41#8 ∧ op ≠ 0x42#8 ∧ op ≠ 0x43#8 ∧ op ≠ 0x44#8 ∧ op ≠ 0x45#8 ∧ op ≠ 0x46#8
      ∧ op ≠ 0x47#8)
    (hflv : op ≠ 0x80#8)
    (hra : op ≠ 0xC0#8 ∧ op ≠ 0xC1#8 ∧ op ≠ 0xC2#8 ∧ op ≠ 0xC3#8 ∧ op ≠ 0xC4#8 ∧ op ≠ 0xC5#8 ∧ op ≠ 0xC6#8) :
    Machine.reservedOp p op.toNat := by
  unfold Machine.reservedOp
  bv_omega

/-- Settles O4: a refused transaction is on no row of the opcode map, and what is on no row is reserved. -/
theorem reservedCodesAreTheMapsGaps : Obligations.ReservedCodesAreTheMapsGaps := by
  intro p c
  obtain ⟨hfold, h40, h41, h42, h43, h44, h45, h46, h47, h80, hC0, hC1, hC2, hC3, hC4, hC5, hC6, hgap⟩ :=
    opcodeMapNamesItsCommands p c
  refine ⟨fun ⟨e, he⟩ => ?_, hgap⟩
  have off : ∀ {row : Prop} {i : Instr}, (row → decode p c = .ok i) → ¬ row := fun hrow h => by
    simp [hrow h] at he
  exact reservedOp_of_off_rows (fun h => off (hfold h.1) h.2)
    ⟨off h40, off h41, off h42, off h43, off h44, off h45, off h46, off h47⟩ (off h80)
    ⟨off hC0, off hC1, off hC2, off hC3, off hC4, off hC5, off hC6⟩

/-- Settles O6: the decoder run on each transaction. -/
theorem testVectorWordsDecode : Obligations.TestVectorWordsDecode := by
  unfold Obligations.TestVectorWordsDecode
  decide

end Sys2Proof
end

section
/-! PROOF. What one scan step decides, how far it moves, and what it leaves (43_reassembler.md R164, R168 to R172). -/

namespace Sys2Proof.Machine

section
variable {p : Params} {skip : Bool} {w : List Byte} {cur : Nat}

/-! ### The decision -/

/-- A scan stops exactly where the bytes left are an incomplete candidate (R164, R168). -/
theorem scanDecision_eq_finish_iff : scanDecision p skip w cur = .finish ↔ stopped (w.drop cur) := by
  have hstopped : stopped (w.drop cur) ↔ w.length - cur < 2 ∨ w.length - cur < (u16be w cur).toNat := by
    rw [stopped, List.length_drop, u16be_drop, Nat.add_zero]
  rw [hstopped]
  constructor
  · intro hd
    rcases scanDecision_cases p skip w cur with ⟨-, hguard⟩ | ⟨_, hreject, -⟩ | ⟨_, haccept, -⟩
    · omega
    · simp [hreject] at hd
    · simp [haccept] at hd
  · intro hguard
    by_cases h2 : w.length - cur < 2
    · exact scanDecision_of_short h2
    · exact scanDecision_of_incomplete h2 (by omega)

/-- What an accepted candidate is: the event of the bytes its length field counts, which the validator accepts, marked
as the checksum says and unmarked where the policy skips (R168). -/
theorem scanDecision_accept_inv {ev : Event} (h : scanDecision p skip w cur = .accept ev) :
    ∃ err, ev = eventOf (slice w cur (cur + (u16be w cur).toNat)) (u16be w cur) err
        (registry p.ids (frameId (slice w cur (cur + (u16be w cur).toNat))))
      ∧ minFrameLen ≤ (u16be w cur).toNat ∧ cur + (u16be w cur).toNat ≤ w.length
      ∧ (flv p.ids (frameId (slice w cur (cur + (u16be w cur).toNat))) (u16be w cur)
          (frameCfg (slice w cur (cur + (u16be w cur).toNat)))).ok = true
      ∧ (err = true ↔ crcTest p.crcSlice w cur (u16be w cur).toNat
          ≠ frameTrailer (slice w cur (cur + (u16be w cur).toNat)) (u16be w cur).toNat)
      ∧ (skip = true → err = false) := by
  rcases scanDecision_cases p skip w cur with ⟨hfinish, -⟩ | ⟨_, hreject, -⟩ | ⟨err, haccept, hrest⟩
  · simp [hfinish] at h
  · simp [hreject] at h
  · exact ⟨err, (ScanDecision.accept.inj (haccept.symm.trans h)).symm, hrest⟩

/-- The event of an accepted candidate agrees with its frame (R70). -/
theorem eventWf_of_accept {ev : Event} (h : scanDecision p skip w cur = .accept ev) : EventWf p ev := by
  obtain ⟨err, rfl, h5, hL, hok, -⟩ := scanDecision_accept_inv h
  have hsize : (slice w cur (cur + (u16be w cur).toNat)).length = (u16be w cur).toNat := by
    rw [length_slice_of_le hL, Nat.add_sub_cancel_left]
  have hlen : u16be (slice w cur (cur + (u16be w cur).toNat)) 0 = u16be w cur := by
    rw [u16be_slice (by rw [Nat.add_sub_cancel_left]; exact Nat.lt_of_lt_of_le (by decide) h5), Nat.add_zero]
  exact {
    size := hsize
    minimum := h5.trans_eq hsize.symm
    lengthField := hlen
    id := rfl
    trailer := by simp only [eventOf, hsize]
    category := rfl
    accepted := hok }

end

section
variable {s : State} {w : List Byte} {cur : Nat}

/-! ### Progress (R172) -/

/-- A step that is not held finishes, or moves the cursor forward inside `W` and uses up at least the byte of room that
an event takes. -/
theorem scanStep_progress (hsc : s.sc = .scan w cur) (hheld : scanHeld s = false) :
    (scanStep s).sc = .idle
    ∨ ∃ cur', (scanStep s).sc = .scan w cur' ∧ cur < cur' ∧ cur' ≤ w.length
        ∧ (scanStep s).evq.length + (w.length - cur') ≤ s.evq.length + (w.length - cur) := by
  cases hd : scanDecision s.cfg s.skip w cur with
  | finish =>
    left
    rw [scanStep_of_finish hsc hd, finishScan_sc]
  | reject cause =>
    right
    have hroom := scanDecision_reject_bounds hd
    rw [scanStep_of_reject hsc hd]
    exact ⟨cur + 1, rfl, by omega, by omega, by simp only [rejectCandidate_evq]; omega⟩
  | accept ev =>
    right
    obtain ⟨h5, hL⟩ := scanDecision_accept_bounds hd
    have hfree : s.evqFull = false := (scanHeld_eq_evqFull_of_accept hsc hd).symm.trans hheld
    rw [scanStep_of_accept hsc hd, hfree]
    exact ⟨cur + ev.length.toNat, rfl, by omega, hL, by simp; omega⟩

/-- Settles O41: the progress of one step. -/
theorem scanMakesProgress : Obligations.ScanMakesProgress := by
  intro s w cur hsc _ hheld
  rcases scanStep_progress hsc hheld with hidle | ⟨cur', hsc', hlt, hle, -⟩
  · exact .inl hidle
  · exact .inr ⟨cur', hsc', hlt, hle⟩

/-- With room for one event a byte, the scanner is not held: an accepted candidate has bytes left, so `EVQ` is
not full. -/
theorem scanHeld_of_room (hsc : s.sc = .scan w cur) (hroom : s.evq.length + (w.length - cur) ≤ s.cfg.evqDepth) :
    scanHeld s = false := by
  rw [Bool.eq_false_iff]
  intro hheld
  obtain ⟨w', cur', ev, hsc', hd, hfull⟩ := (scanHeld_iff s).mp hheld
  obtain ⟨rfl, rfl⟩ := ScanState.scan.inj (hsc.symm.trans hsc')
  obtain ⟨h5, hL⟩ := scanDecision_accept_bounds hd
  have := (evqFull_iff s).mp hfull
  omega

theorem scanStep_of_idle (h : s.sc = .idle) : scanStep s = s := by
  simp [scanStep, h]

theorem scanSteps_of_idle (h : s.sc = .idle) (n : Nat) : (scanSteps n s).sc = .idle := by
  induction n with
  | zero => exact h
  | succ n ih => rwa [scanSteps, scanStep_of_idle h]

/-- A scan with room finishes in any number of steps above the number of bytes left: each step that goes on uses one. -/
theorem scanSteps_idle_of_room (n : Nat) {s : State} {cur : Nat} (hsc : s.sc = .scan w cur)
    (hroom : s.evq.length + (w.length - cur) ≤ s.cfg.evqDepth) (hn : w.length - cur < n) :
    (scanSteps n s).sc = .idle := by
  induction n generalizing s cur with
  | zero => omega
  | succ n ih =>
    obtain ⟨hcfg, -⟩ := scanStep_frame s
    rcases scanStep_progress hsc (scanHeld_of_room hsc hroom) with hidle | ⟨cur', hsc', hlt, hle, hused⟩
    · exact scanSteps_of_idle hidle n
    · exact ih hsc' (by rw [hcfg]; omega) (by omega)

/-- Settles O42: the bytes left bound the steps. -/
theorem scanFinishesInTime : Obligations.ScanFinishesInTime := by
  intro s w cur hsc _ hroom
  exact scanSteps_idle_of_room _ hsc hroom (by omega)

/-! ### What a finish leaves (R164, R170) -/

/-- Where a scan stops, at most 65534 bytes are left: fewer than 2, or fewer than a 16-bit length field says. -/
theorem length_le_of_stopped {r : List Byte} (h : stopped r) : r.length ≤ 65534 := by
  have := u16be_toNat_lt r 0
  rcases h with h | h <;> omega

/-- A scan step that goes on leaves `PEND` and `ERR_OVF`; one that finishes does what `Finish` says. -/
theorem scanStep_pend_cases (s : State) :
    (scanStep s).pend = s.pend ∧ (scanStep s).errOvf = s.errOvf
    ∨ ∃ w cur, s.sc = .scan w cur ∧ stopped (w.drop cur) ∧ scanStep s = finishScan w cur s := by
  rcases scanStep_cases s with ⟨-, e⟩ | ⟨w, cur, hsc, ⟨hd, e⟩ | ⟨cause, -, e⟩ | ⟨ev, -, -, e⟩ | ⟨ev, -, -, e⟩⟩
  · exact .inl ⟨by rw [e], by rw [e]⟩
  · exact .inr ⟨w, cur, hsc, scanDecision_eq_finish_iff.mp hd, e⟩
  · exact .inl ⟨by rw [e]; rfl, by rw [e]; rfl⟩
  · exact .inl ⟨by rw [e], by rw [e]⟩
  · exact .inl ⟨by rw [e]; rfl, by rw [e]; rfl⟩

/-- Settles O46: what a finish leaves is where the scan stopped. -/
theorem defaultPendingBufferNeverOverflows : Obligations.DefaultPendingBufferNeverOverflows := by
  intro s
  rcases scanStep_pend_cases s with ⟨hpend, hovf⟩ | ⟨w, cur, -, hstopped, hfinish⟩
  · exact ⟨fun h => by rwa [hpend], fun _ => hovf⟩
  · have hshort := length_le_of_stopped hstopped
    rw [hfinish, finishScan_pend, finishScan_errOvf]
    refine ⟨fun _ => ?_, fun hcap => if_neg (by omega)⟩
    split
    · exact Nat.zero_le _
    · exact hshort

/-- A push that fits starts the scan of the pending bytes and the chunk (R162). -/
theorem pushChunk_of_fits {chunk : List Byte} (h : workOverflow s.cfg (s.pend ++ chunk).length = false) :
    pushChunk chunk s = { s with pend := [], sc := .scan (s.pend ++ chunk) 0 } :=
  if_neg (Bool.eq_false_iff.mp h)

/-- A finish whose bytes fit PEND_CAP keeps them (R170). -/
theorem finishScan_of_fits (h : (w.drop cur).length ≤ s.cfg.pendCap) :
    finishScan w cur s = { s with pend := w.drop cur, sc := .idle } :=
  if_neg (Nat.not_lt.mpr h)

/-- Settles O45: the scan of `PEND` alone finishes at once and puts it back. -/
theorem emptyChunkChangesNothing : Obligations.EmptyChunkChangesNothing := by
  intro s hidle hstopped hcap hwork
  have hpush : pushChunk [] s = { s with pend := [], sc := .scan s.pend 0 } := by
    rw [pushChunk_of_fits (by rwa [List.append_nil]), List.append_nil]
  have hd : scanDecision s.cfg s.skip s.pend 0 = .finish := scanDecision_eq_finish_iff.mpr hstopped
  have hsc : (pushChunk [] s).sc = .scan s.pend 0 := by rw [hpush]
  refine ⟨hsc, ?_⟩
  rw [scanStep_of_finish hsc (by rwa [pushChunk_cfg, pushChunk_skip]), hpush]
  refine (finishScan_of_fits (w := s.pend) (cur := 0) hcap).trans ?_
  rw [← hidle]
  rfl

/-! ### What an emitted event says (R25) -/

/-- A step that appends an event accepted its candidate. -/
theorem accept_of_scanStep_evq {ev : Event} (hsc : s.sc = .scan w cur) (h : (scanStep s).evq = s.evq ++ [ev]) :
    scanDecision s.cfg s.skip w cur = .accept ev := by
  cases hd : scanDecision s.cfg s.skip w cur with
  | finish => simp [scanStep_of_finish hsc hd] at h
  | reject cause => simp [scanStep_of_reject hsc hd] at h
  | accept ev' =>
    rw [scanStep_of_accept hsc hd] at h
    split at h
    · simp at h
    · simpa using h

/-- Settles O49: the mark of the accepted candidate. -/
theorem checksumPolicyGovernsDelivery : Obligations.ChecksumPolicyGovernsDelivery := by
  intro s w cur ev hsc hevq
  obtain ⟨err, rfl, -, -, -, hmark, hskip⟩ := scanDecision_accept_inv (accept_of_scanStep_evq hsc hevq)
  exact ⟨hmark, hskip⟩

end

end Sys2Proof.Machine
end

section
/-! PROOF. The chunk-level summary: the machine computes it however pops interleave (43_reassembler.md R173), and in
PER_FRAME mode chunk boundaries do not matter (R174). -/

namespace Sys2Proof.Machine

section
variable {p : Params} {skip : Bool} {w : List Byte}

/-! ### The machine against the summary (R173) -/

/-- What holds between two turns of a host that only pops, for a chunk whose summary is `r`: the events popped and
queued follow those queued before the push, and what the summary still does from the scan's place gives `r`. -/
structure ComputesSummary (p : Params) (skip ovf : Bool) (queued : List Event) (w : List Byte) (r : ChunkResult)
    (x : State × List Event) : Prop where
  cfg_eq : x.1.cfg = p
  skip_eq : x.1.skip = skip
  errOvf_eq : x.1.errOvf = ovf
  summary :
    (x.1.sc = .idle ∧ x.1.pend = r.pend ∧ x.1.fcount = r.fcount ∧ x.2 ++ x.1.evq = queued ++ r.events)
    ∨ ∃ cur fuel events, x.1.sc = .scan w cur ∧ cur ≤ w.length ∧ w.length < cur + fuel
        ∧ x.2 ++ x.1.evq = queued ++ events ∧ chunkLoop p skip w fuel cur x.1.fcount events = r

variable {ovf : Bool} {queued : List Event} {r : ChunkResult}

/-- Popping moves the oldest queued event behind those already popped. -/
theorem ComputesSummary.pop {x : State × List Event} (h : ComputesSummary p skip ovf queued w r x) :
    ComputesSummary p skip ovf queued w r (scanOrPop false x) := by
  have hevents : (x.2 ++ x.1.evq.take 1) ++ x.1.evq.tail = x.2 ++ x.1.evq := by
    rw [List.append_assoc, ← List.drop_one, List.take_append_drop]
  obtain ⟨hcfg, hskip, hovf, hsummary⟩ := h
  refine ⟨hcfg, hskip, hovf, ?_⟩
  simp only [scanOrPop, Bool.false_eq_true, if_false, dropEvent_sc, dropEvent_pend, dropEvent_fcount, dropEvent_evq,
    hevents]
  exact hsummary

/-- A scan step does one turn of the summary's loop, or waits. -/
theorem ComputesSummary.scan {x : State × List Event} (hfits : r.pend.length ≤ p.pendCap)
    (h : ComputesSummary p skip ovf queued w r x) : ComputesSummary p skip ovf queued w r (scanOrPop true x) := by
  obtain ⟨s, popped⟩ := x
  obtain ⟨rfl, rfl, rfl, hidle | ⟨cur, fuel, events, hsc, hcur, hfuel, hevents, hloop⟩⟩ := h
  · have hstays : scanStep s = s := scanStep_of_idle hidle.1
    simp only [scanOrPop, if_true, hstays]
    exact ⟨rfl, rfl, rfl, .inl hidle⟩
  obtain ⟨n, rfl⟩ : ∃ n, fuel = n + 1 := Nat.exists_eq_add_one.mpr (by omega)
  dsimp only at hsc hevents hloop hfits
  rw [chunkLoop_succ] at hloop
  simp only [scanOrPop, if_true]
  cases hd : scanDecision s.cfg s.skip w cur with
  | finish =>
    simp only [hd, slice_to_end] at hloop
    subst hloop
    rw [scanStep_of_finish hsc hd, finishScan_of_fits hfits]
    exact ⟨rfl, rfl, rfl, .inl ⟨rfl, rfl, rfl, hevents⟩⟩
  | reject cause =>
    simp only [hd] at hloop
    have hroom := scanDecision_reject_bounds hd
    rw [scanStep_of_reject hsc hd]
    exact ⟨rfl, rfl, rfl, .inr ⟨cur + 1, n, events, rfl, by omega, by omega, hevents, hloop⟩⟩
  | accept ev =>
    simp only [hd] at hloop
    obtain ⟨h5, hL⟩ := scanDecision_accept_bounds hd
    rw [scanStep_of_accept hsc hd]
    by_cases hfull : s.evqFull = true
    · rw [if_pos hfull]
      refine ⟨rfl, rfl, rfl, .inr ⟨cur, n + 1, events, hsc, hcur, hfuel, hevents, ?_⟩⟩
      rw [chunkLoop_succ, hd]
      exact hloop
    · rw [if_neg hfull]
      refine ⟨rfl, rfl, rfl, .inr ⟨cur + ev.length.toNat, n, events ++ [ev], rfl, hL, by omega, ?_, hloop⟩⟩
      simp only [acceptFrame_evq, ← List.append_assoc]
      rw [hevents]

theorem ComputesSummary.scanAndPop (turns : List Bool) {x : State × List Event} (hfits : r.pend.length ≤ p.pendCap)
    (h : ComputesSummary p skip ovf queued w r x) :
    ComputesSummary p skip ovf queued w r (Machine.scanAndPop turns x) := by
  induction turns generalizing x with
  | nil => exact h
  | cons turn turns ih =>
    cases turn with
    | false => exact ih h.pop
    | true => exact ih (h.scan hfits)

/-- Settles O43: the push starts the summary's loop with its own fuel; every turn keeps what the loop still gives; once
idle, that is the summary. -/
theorem scanComputesTheChunkSummary : Obligations.ScanComputesTheChunkSummary := by
  intro s chunk turns _ hwork r hfits x hidle
  have hstart : ComputesSummary s.cfg s.skip s.errOvf s.evq (s.pend ++ chunk) r (pushChunk chunk s, []) := by
    rw [pushChunk_of_fits hwork]
    exact ⟨rfl, rfl, rfl, .inr ⟨0, _, [], rfl, Nat.zero_le _, by omega, (List.append_nil _).symm, rfl⟩⟩
  obtain ⟨-, hskip, hovf, ⟨-, hpend, hcount, hevents⟩ | ⟨_, _, _, hbusy, -⟩⟩ := hstart.scanAndPop turns hfits
  · exact ⟨hpend, hcount, hevents, hskip, hovf⟩
  · rw [hidle] at hbusy
    cases hbusy

/-! ### Chunk boundaries (R174) -/

/-- The loop only adds to the events it starts with. -/
theorem chunkLoop_events (p : Params) (skip : Bool) (w : List Byte) (fuel cur : Nat) (k : Word) (e : List Event) :
    chunkLoop p skip w fuel cur k e
      = ⟨(chunkLoop p skip w fuel cur k []).pend, (chunkLoop p skip w fuel cur k []).fcount,
          e ++ (chunkLoop p skip w fuel cur k []).events⟩ := by
  induction fuel generalizing cur k e with
  | zero => simp [chunkLoop]
  | succ n ih =>
    rw [chunkLoop_succ, chunkLoop_succ p skip w n cur k []]
    cases scanDecision p skip w cur with
    | finish => simp
    | reject cause => exact ih ..
    | accept ev =>
      simp only [List.nil_append]
      rw [ih _ _ (e ++ [ev]), ih _ _ [ev]]
      simp

/-- Fuel past the bytes left changes nothing: every turn that goes on uses a byte. -/
theorem chunkLoop_fuel {n m cur : Nat} {k : Word} {e : List Event} (hcur : cur ≤ w.length) (hn : w.length < cur + n)
    (hm : w.length < cur + m) : chunkLoop p skip w n cur k e = chunkLoop p skip w m cur k e := by
  induction n generalizing m cur k e with
  | zero => omega
  | succ n ih =>
    obtain ⟨m, rfl⟩ : ∃ m', m = m' + 1 := Nat.exists_eq_add_one.mpr (by omega)
    rw [chunkLoop_succ, chunkLoop_succ]
    cases hd : scanDecision p skip w cur with
    | finish => rfl
    | reject cause =>
      have hroom := scanDecision_reject_bounds hd
      exact ih (by omega) (by omega) (by omega)
    | accept ev =>
      obtain ⟨h5, hL⟩ := scanDecision_accept_bounds hd
      exact ih (by omega) (by omega) (by omega)

section
variable (hmode : p.crcSlice = .perFrame)
include hmode

/-- In PER_FRAME mode the decision at a cursor looks at nothing before it. -/
theorem scanDecision_drop (c cur : Nat) : scanDecision p skip (w.drop c) cur = scanDecision p skip w (c + cur) := by
  have hlen : (w.drop c).length = w.length - c := List.length_drop
  have hu : u16be (w.drop c) cur = u16be w (c + cur) := u16be_drop w c cur
  by_cases h2 : w.length - (c + cur) < 2
  · rw [scanDecision_of_short h2, scanDecision_of_short (by omega)]
  by_cases hL : w.length < c + cur + (u16be w (c + cur)).toNat
  · rw [scanDecision_of_incomplete h2 hL, scanDecision_of_incomplete (by omega) (by rw [hu]; omega)]
  by_cases h5 : (u16be w (c + cur)).toNat < 5
  · rw [scanDecision_of_lt_five h2 hL h5,
      scanDecision_of_lt_five (by omega) (by rw [hu]; omega) (by rwa [hu]), hu]
  · have htest : c + (cur + (u16be w (c + cur)).toNat - 2) = c + cur + (u16be w (c + cur)).toNat - 2 := by omega
    rw [scanDecision_of_five_le h2 hL h5,
      scanDecision_of_five_le (by omega) (by rw [hu]; omega) (by rwa [hu]), hu]
    simp only [crcTest, hmode, slice_drop, htest, ← Nat.add_assoc]

/-- In PER_FRAME mode bytes that arrive later do not change a decision that has been made. -/
theorem scanDecision_append (b : List Byte) {cur : Nat} (hd : scanDecision p skip w cur ≠ .finish) :
    scanDecision p skip (w ++ b) cur = scanDecision p skip w cur := by
  have hlen : (w ++ b).length = w.length + b.length := List.length_append
  have h2 : ¬ w.length - cur < 2 := mt scanDecision_of_short hd
  have hL : ¬ w.length < cur + (u16be w cur).toNat := mt (scanDecision_of_incomplete h2) hd
  have hu : u16be (w ++ b) cur = u16be w cur := u16be_append_left (by omega)
  by_cases h5 : (u16be w cur).toNat < 5
  · rw [scanDecision_of_lt_five h2 hL h5,
      scanDecision_of_lt_five (by omega) (by rw [hu]; omega) (by rwa [hu]), hu]
  · rw [scanDecision_of_five_le h2 hL h5,
      scanDecision_of_five_le (by omega) (by rw [hu]; omega) (by rwa [hu]), hu]
    simp only [crcTest, hmode]
    rw [slice_append_left (by omega), slice_append_left (by omega)]

theorem chunkLoop_drop (c : Nat) {fuel cur : Nat} {k : Word} {e : List Event} :
    chunkLoop p skip (w.drop c) fuel cur k e = chunkLoop p skip w fuel (c + cur) k e := by
  induction fuel generalizing cur k e with
  | zero => simp only [chunkLoop, slice_to_end, List.drop_drop]
  | succ n ih =>
    rw [chunkLoop_succ, chunkLoop_succ, scanDecision_drop hmode]
    cases scanDecision p skip w (c + cur) with
    | finish => simp only [slice_to_end, List.drop_drop]
    | reject cause => exact ih
    | accept ev => simp only [ih, Nat.add_assoc]

/-- Where the loop stops on the first part, it has done what it does on the whole; from there it goes on with the bytes
left and the second part. -/
theorem chunkLoop_append (b : List Byte) {n m cur : Nat} {k : Word} {e : List Event} (hcur : cur ≤ w.length)
    (hn : w.length < cur + n) (hm : (w ++ b).length < cur + m) :
    chunkLoop p skip (w ++ b) m cur k e
      = chunkLoop p skip ((chunkLoop p skip w n cur k e).pend ++ b)
          (((chunkLoop p skip w n cur k e).pend ++ b).length + 1) 0 (chunkLoop p skip w n cur k e).fcount
          (chunkLoop p skip w n cur k e).events := by
  induction n generalizing m cur k e with
  | zero => omega
  | succ n ih =>
    rw [chunkLoop_succ p skip w]
    cases hd : scanDecision p skip w cur with
    | finish =>
      have hrest : w.drop cur ++ b = (w ++ b).drop cur := (List.drop_append_of_le_length hcur).symm
      simp only [slice_to_end, hrest]
      rw [chunkLoop_drop hmode, Nat.add_zero]
      refine chunkLoop_fuel ?_ hm ?_
      · rw [List.length_append]; omega
      · rw [List.length_drop]; omega
    | reject cause =>
      have hroom := scanDecision_reject_bounds hd
      obtain ⟨m, rfl⟩ : ∃ m', m = m' + 1 := Nat.exists_eq_add_one.mpr (by rw [List.length_append] at hm; omega)
      rw [chunkLoop_succ, scanDecision_append hmode b (by simp [hd]), hd]
      exact ih (by omega) (by omega) (by omega)
    | accept ev =>
      obtain ⟨h5, hL⟩ := scanDecision_accept_bounds hd
      obtain ⟨m, rfl⟩ : ∃ m', m = m' + 1 := Nat.exists_eq_add_one.mpr (by rw [List.length_append] at hm; omega)
      rw [chunkLoop_succ, scanDecision_append hmode b (by simp [hd]), hd]
      exact ih (by omega) (by omega) (by omega)

end

end

/-- Settles O44: the loop on both parts, with the first part's events taken out of the second loop. -/
theorem chunkBoundariesDoNotMatter : Obligations.ChunkBoundariesDoNotMatter := by
  intro p pend skip k a b hmode
  dsimp only
  unfold decodeChunk
  rw [← List.append_assoc, chunkLoop_append hmode b (Nat.zero_le _) (n := (pend ++ a).length + 1) (by omega) (by omega)]
  exact chunkLoop_events ..

end Sys2Proof.Machine
end

section
/-! PROOF. The moves of a step, and what every step keeps (10_state.md §2, 20_memory.md §5, 60_exceptions.md). -/

namespace Sys2Proof.Machine

section
variable {s t : State}

/-! ### The next move -/

theorem hostMove_of_ok {c : Command} {i : Instr} (hc : s.cmds.head? = some c) (hd : decode s.cfg c = .ok i) :
    hostMove s = .command i := by
  obtain ⟨rest, hcmds⟩ := List.head?_eq_some_iff.mp hc
  simp [hostMove, hcmds, hd]

theorem hostMove_of_error {c : Command} {e : Reject} (hc : s.cmds.head? = some c) (hd : decode s.cfg c = .error e) :
    hostMove s = .reserved := by
  obtain ⟨rest, hcmds⟩ := List.head?_eq_some_iff.mp hc
  simp [hostMove, hcmds, hd]

/-- Out of reset, the host moves where the scanner has no step or comes second. -/
theorem nextMove_eq_hostMove (hrst : s.rst = false)
    (h : scanReady s = false ∨ hostReady s = true ∧ hostFirst s = true) : nextMove s = hostMove s := by
  rcases nextMove_cases s with ⟨hreset, -⟩ | ⟨-, hscan, hsecond, -⟩ | ⟨-, -, hmove⟩
  · simp [hrst] at hreset
  · rcases h with h | ⟨hready, hfirst⟩
    · simp [hscan] at h
    · simp [hready, hfirst] at hsecond
  · exact hmove

/-- Reset is the move exactly while `rst = 1` (R230). -/
theorem nextMove_eq_reset_iff : nextMove s = .reset ↔ s.rst = true := by
  refine ⟨fun h => ?_, nextMove_of_rst⟩
  rcases nextMove_cases s with ⟨hrst, -⟩ | ⟨-, -, -, hscan⟩ | ⟨-, -, hmove⟩
  · exact hrst
  · simp [hscan] at h
  · rcases hostMove_cases s with ⟨hh, -⟩ | ⟨_, _, _, -, -, hh⟩ | ⟨_, _, _, -, -, hh⟩ <;> simp [hmove, hh] at h

/-- Settles O7: the host's move is the decoded command. -/
theorem stepRunsTheDecodedCommand : Obligations.StepRunsTheDecodedCommand := by
  rintro s c i ⟨hrst, hc, hturn⟩ hd
  refine ⟨?_, settle_eq s⟩
  rw [step, nextMove_eq_hostMove hrst hturn, hostMove_of_ok hc hd]

/-- Settles O8: the decoder refuses a reserved value, and the host's move is then the reserved outcome. -/
theorem stepTakesAReservedCommand : Obligations.StepTakesAReservedCommand := by
  rintro s c ⟨hrst, hc, hturn⟩ hres
  obtain ⟨e, hd⟩ := exists_error_of_reservedOp hres
  refine ⟨takeReserved (settle s), ?_, rfl, rfl⟩
  rw [step, nextMove_eq_hostMove hrst hturn, hostMove_of_error hc hd]

/-- Settles O9: with the scanner ready and the host not or second, the move is the scan. -/
theorem stepMovesTheScanner : Obligations.StepMovesTheScanner := by
  intro s hrst hscan hsecond
  have hmove : nextMove s = .scan := by
    rcases hsecond with h | h <;> simp [nextMove, hrst, hscan, h]
  rw [step, hmove]

/-- Every command's meaning answers a next state: it replies, waits, or takes the reserved outcome. -/
theorem exec_answers_next (i : Instr) (s : State) : ∃ t, exec i s = .next t := by
  cases i with
  | crcFold c d => rcases execCrcFold_cases c d s with ⟨-, h⟩ | ⟨-, h⟩ <;> exact ⟨_, h⟩
  | raPush n => rcases execRaPush_cases n s with ⟨-, h⟩ | ⟨-, -, h⟩ <;> exact ⟨_, h⟩
  | raSetpol b => rcases execRaSetpol_cases b s with ⟨-, h⟩ | ⟨-, h⟩ <;> exact ⟨_, h⟩
  | raCount => rcases readWord_cases s.count s with ⟨-, h⟩ | ⟨-, h⟩ <;> exact ⟨_, h⟩
  | raPendlen => rcases readWord_cases s.pendLen s with ⟨-, h⟩ | ⟨-, h⟩ <;> exact ⟨_, h⟩
  | raClear => rcases execRaClear_cases s with ⟨-, h⟩ | ⟨-, h⟩ <;> exact ⟨_, h⟩
  | raEvpop => rcases execRaEvpop_cases s with ⟨-, h⟩ | ⟨_, _, -, h⟩ <;> exact ⟨_, h⟩
  | _ => exact ⟨_, rfl⟩

/-- Settles O11: every move but a command's is a next state as it stands. -/
theorem everyStepAnswersANextState : Obligations.EveryStepAnswersANextState := by
  intro s
  unfold step
  cases nextMove s with
  | command i => exact exec_answers_next i (settle s)
  | _ => exact ⟨_, rfl⟩

/-- A command that waits for `SC = Idle` leaves a busy state as it is (R165, R181, R184). -/
theorem exec_of_busy {i : Instr} (hwait : waitsForIdle i = true) (hbusy : s.busy = true) : exec i s = .next s := by
  cases i with
  | raPush n =>
    rcases execRaPush_cases n s with ⟨-, h⟩ | ⟨hidle, -⟩
    · exact h
    · simp [hbusy] at hidle
  | raSetpol b => exact if_pos hbusy
  | raClear => exact if_pos hbusy
  | _ => simp [waitsForIdle] at hwait

/-- With the order open and the scanner without a step, the step's bookkeeping changes nothing. -/
theorem settle_eq_self (hturn : s.turn = none) (hscan : scanReady s = false) : settle s = s := by
  have hdraws : (settle s).draws = s.draws := by simp [contended, hscan]
  show { s with turn := none, draws := (settle s).draws } = s
  rw [hdraws, ← hturn]

/-- Settles O60: the scanner is held, so the command on the port is the move, and it waits. -/
theorem fullFifoAndHeldCommandDeadlock : Obligations.FullFifoAndHeldCommandDeadlock := by
  intro s c i hrst hheld hc hd hwait hturn
  obtain ⟨w, cur, -, hsc, -⟩ := (scanHeld_iff s).mp hheld
  have hscan : scanReady s = false := by simp [scanReady, hheld]
  rw [step, nextMove_eq_hostMove hrst (.inl hscan), hostMove_of_ok hc hd, settle_eq_self hturn hscan]
  exact exec_of_busy hwait ((busy_iff s).mpr ⟨w, cur, hsc⟩)

/-! ### Parameters, pins and commands -/

/-- What no command's meaning changes, and the one thing it does to the port. -/
theorem exec_port {i : Instr} (h : exec i s = .next t) :
    t.cfg = s.cfg ∧ t.rst = s.rst ∧ t.crcPort = s.crcPort ∧ (t.cmds = s.cmds ∨ t.cmds = s.cmds.tail) := by
  rcases exec_cases h with rfl | ⟨r, rfl⟩ | ⟨r, b, rfl⟩ | ⟨r, -, -, rfl⟩ | ⟨n, -, -, rfl⟩ | ⟨b, -, -, rfl⟩
    | ⟨-, -, rfl⟩ | ⟨ev, evs, -, -, rfl⟩ | ⟨c, d, -, -, rfl⟩
  · exact ⟨rfl, rfl, rfl, .inl rfl⟩
  · exact ⟨rfl, rfl, rfl, .inr rfl⟩
  · exact ⟨rfl, rfl, rfl, .inr rfl⟩
  · exact ⟨rfl, rfl, rfl, .inr rfl⟩
  · exact ⟨by simp, by simp, by simp, .inr (by simp)⟩
  · exact ⟨rfl, rfl, rfl, .inr rfl⟩
  · exact ⟨rfl, rfl, rfl, .inr rfl⟩
  · exact ⟨rfl, rfl, rfl, .inr rfl⟩
  · exact ⟨rfl, rfl, rfl, .inr rfl⟩

/-- Settles O57: move by move. -/
theorem parametersNeverChange : Obligations.ParametersNeverChange := by
  intro s t h
  rcases step_cases h with ⟨-, rfl⟩ | ⟨-, rfl⟩ | ⟨-, rfl⟩ | ⟨i, -, he⟩ | ⟨-, rfl⟩
  · exact ⟨rfl, rfl, rfl⟩
  · exact ⟨rfl, rfl, rfl⟩
  · obtain ⟨hcfg, -, -, -, -, -, hrst, hpins, -⟩ := scanStep_frame (settle s)
    exact ⟨hcfg, hrst, hpins⟩
  · obtain ⟨hcfg, hrst, hpins, -⟩ := exec_port he
    exact ⟨hcfg, hrst, hpins⟩
  · exact ⟨rfl, rfl, rfl⟩

/-- Settles O58: move by move. -/
theorem commandsAreTakenInOrder : Obligations.CommandsAreTakenInOrder := by
  intro s t h
  rcases step_cases h with ⟨-, rfl⟩ | ⟨-, rfl⟩ | ⟨-, rfl⟩ | ⟨i, hm, he⟩ | ⟨hm, rfl⟩
  · exact .inl rfl
  · exact .inl rfl
  · obtain ⟨-, -, -, -, hcmds, -⟩ := scanStep_frame (settle s)
    exact .inl hcmds
  · obtain ⟨-, -, -, hstays | htaken⟩ := exec_port he
    · exact .inl hstays
    · exact .inr ⟨htaken, .inr ⟨i, hm⟩⟩
  · exact .inr ⟨rfl, .inl hm⟩

/-! ### The decoder's elements -/

/-- What a step does to `PEND`, `FCOUNT`, `SKIP` and `EVQ`, by the moves that write one of them. -/
theorem step_decoder (h : step s = .next t) :
    (t.pend = s.pend ∧ t.fcount = s.fcount ∧ t.skip = s.skip ∧ t.evq = s.evq)
    ∨ (nextMove s = .scan ∧ t = scanStep (settle s))
    ∨ (∃ n, nextMove s = .command (.raPush n)
        ∧ t.pend = [] ∧ t.fcount = s.fcount ∧ t.skip = s.skip ∧ t.evq = s.evq)
    ∨ (∃ b, nextMove s = .command (.raSetpol b) ∧ s.busy = false
        ∧ t.pend = s.pend ∧ t.fcount = s.fcount ∧ t.skip = b ∧ t.evq = s.evq)
    ∨ (nextMove s = .command .raEvpop
        ∧ t.pend = s.pend ∧ t.fcount = s.fcount ∧ t.skip = s.skip ∧ t.evq = s.evq.tail)
    ∨ ((nextMove s = .command .raClear ∧ s.busy = false ∨ nextMove s = .reset)
        ∧ t.pend = [] ∧ t.fcount = 0 ∧ t.evq = []) := by
  rcases step_cases h with ⟨hm, rfl⟩ | ⟨-, rfl⟩ | ⟨hm, rfl⟩ | ⟨i, hm, he⟩ | ⟨-, rfl⟩
  · exact .inr (.inr (.inr (.inr (.inr ⟨.inr hm, rfl, rfl, rfl⟩))))
  · exact .inl ⟨rfl, rfl, rfl, rfl⟩
  · exact .inr (.inl ⟨hm, rfl⟩)
  · rcases exec_cases he with rfl | ⟨r, rfl⟩ | ⟨r, b, rfl⟩ | ⟨r, -, -, rfl⟩ | ⟨n, rfl, -, rfl⟩ | ⟨b, rfl, hidle, rfl⟩
      | ⟨rfl, hidle, rfl⟩ | ⟨ev, evs, rfl, -, rfl⟩ | ⟨c, d, -, -, rfl⟩
    · exact .inl ⟨rfl, rfl, rfl, rfl⟩
    · exact .inl ⟨rfl, rfl, rfl, rfl⟩
    · exact .inl ⟨rfl, rfl, rfl, rfl⟩
    · exact .inl ⟨rfl, rfl, rfl, rfl⟩
    · exact .inr (.inr (.inl ⟨n, hm, by simp, by simp, by simp, by simp⟩))
    · exact .inr (.inr (.inr (.inl ⟨b, hm, hidle, rfl, rfl, rfl, rfl⟩)))
    · exact .inr (.inr (.inr (.inr (.inr ⟨.inl ⟨hm, hidle⟩, rfl, rfl, rfl⟩))))
    · exact .inr (.inr (.inr (.inr (.inl ⟨hm, rfl, rfl, rfl, rfl⟩))))
    · exact .inl ⟨rfl, rfl, rfl, rfl⟩
  · exact .inl ⟨rfl, rfl, rfl, rfl⟩

/-- Settles O52: by the moves that write `EVQ`. -/
theorem eventsKeepTheirOrder : Obligations.EventsKeepTheirOrder := by
  intro s t h
  rcases step_decoder h with ⟨-, -, -, hevq⟩ | ⟨hm, rfl⟩ | ⟨n, -, -, -, -, hevq⟩ | ⟨b, -, -, -, -, -, hevq⟩
    | ⟨hm, -, -, -, hevq⟩ | ⟨hm, -, -, hevq⟩
  · exact .inl hevq
  · obtain ⟨-, -, -, -, -, -, -, -, -, -, hkeeps | hemits, -⟩ := scanStep_frame (settle s)
    · exact .inl hkeeps
    · exact .inr (.inl ⟨hm, hemits⟩)
  · exact .inl hevq
  · exact .inl hevq
  · exact .inr (.inr (.inl ⟨hm, hevq⟩))
  · exact .inr (.inr (.inr ⟨hm.imp_left And.left, hevq⟩))

/-- Settles O53: by the moves that write `SKIP`; those two hold while BUSY. -/
theorem policyIsFixedDuringAScan : Obligations.PolicyIsFixedDuringAScan := by
  intro s t hrst h
  have same : t.skip = s.skip → (s.busy = true → t.skip = s.skip) ∧ (t.skip ≠ s.skip →
      nextMove s = .command .raClear ∨ ∃ b, nextMove s = .command (.raSetpol b) ∧ t.skip = b) :=
    fun hskip => ⟨fun _ => hskip, fun hne => absurd hskip hne⟩
  rcases step_decoder h with ⟨-, -, hskip, -⟩ | ⟨-, rfl⟩ | ⟨n, -, -, -, hskip, -⟩ | ⟨b, hm, hidle, -, -, hskip, -⟩
    | ⟨-, -, -, hskip, -⟩ | ⟨⟨hm, hidle⟩ | hreset, -⟩
  · exact same hskip
  · obtain ⟨-, hskip, -⟩ := scanStep_frame (settle s)
    exact same hskip
  · exact same hskip
  · exact ⟨fun hbusy => by simp [hidle] at hbusy, fun _ => .inr ⟨b, hm, hskip⟩⟩
  · exact same hskip
  · exact ⟨fun hbusy => by simp [hidle] at hbusy, fun _ => .inl hm⟩
  · simp [nextMove_eq_reset_iff.mp hreset] at hrst

/-- Settles O55: by the moves that write `FCOUNT`. -/
theorem onlyTheScanCounts : Obligations.OnlyTheScanCounts := by
  intro s t h hne
  rcases step_decoder h with ⟨-, hcount, -⟩ | ⟨hm, rfl⟩ | ⟨n, -, -, hcount, -⟩ | ⟨b, -, -, -, hcount, -⟩
    | ⟨-, -, hcount, -⟩ | ⟨hm, -, hzero, -⟩
  · exact absurd hcount hne
  · obtain ⟨-, -, -, -, -, -, -, -, -, -, -, hsame | hcounted, -⟩ := scanStep_frame (settle s)
    · exact absurd hsame hne
    · exact .inl ⟨hm, hcounted⟩
  · exact absurd hcount hne
  · exact absurd hcount hne
  · exact absurd hcount hne
  · exact .inr ⟨hm.imp_left And.left, hzero⟩

/-- Settles O56: by the moves that write `PEND`. -/
theorem pendingBytesChangeOnlyAtTheScanEnds : Obligations.PendingBytesChangeOnlyAtTheScanEnds := by
  intro s t h hne
  rcases step_decoder h with ⟨hpend, -⟩ | ⟨hm, rfl⟩ | ⟨n, hm, hempty, -⟩ | ⟨b, -, -, hpend, -⟩
    | ⟨-, hpend, -⟩ | ⟨hm, hempty, -⟩
  · exact absurd hpend hne
  · obtain ⟨-, -, -, -, -, -, -, -, -, -, -, -, hsame | hidle⟩ := scanStep_frame (settle s)
    · exact absurd hsame hne
    · exact .inl ⟨hm, hidle⟩
  · exact .inr ⟨hempty, .inr (.inr ⟨n, hm⟩)⟩
  · exact absurd hpend hne
  · exact absurd hpend hne
  · exact .inr ⟨hempty, hm.elim (fun hclear => .inr (.inl hclear.1)) .inl⟩

/-- `ev_pending` says whether an event is queued (R210). -/
theorem evPending_iff (s : State) : s.evPending = true ↔ s.evq ≠ [] :=
  (evqNe_iff s).trans List.length_pos_iff

/-- Settles O59: a scan step leaves `EVQ` or appends to it. -/
theorem evPendingFollowsTheFifo : Obligations.EvPendingFollowsTheFifo := by
  intro s
  obtain ⟨-, -, -, -, -, -, -, -, -, -, hevq, -⟩ := scanStep_frame s
  refine ⟨evPending_iff s, fun hlow hhigh => ?_, fun hhigh => ?_⟩
  · have hempty : s.evq = [] := by
      rw [← not_ne_iff, ← evPending_iff, hlow]
      decide
    rcases hevq with hkeeps | ⟨ev, hemits⟩
    · exact absurd (hkeeps.trans hempty) ((evPending_iff _).mp hhigh)
    · exact ⟨ev, by rw [hemits, hempty, List.nil_append]⟩
  · rw [evPending_iff] at hhigh ⊢
    rcases hevq with hkeeps | ⟨ev, hemits⟩
    · rwa [hkeeps]
    · simp [hemits]

end

/-! ### The invariant -/

section
variable {s t : State}

/-- What takes no more than it had keeps the invariant: `PEND` and the scan as they were, or `PEND` empty and the cursor
inside `W`; of the events queued some or none; `BO_REG` as it was, or zero. -/
theorem State.Inv.of_sublist (h : s.Inv) (hcfg : t.cfg = s.cfg)
    (hpend : t.pend = s.pend ∧ t.sc = s.sc ∨ t.pend = [] ∧ cursorInside t.sc) (hevq : t.evq.Sublist s.evq)
    (hbo : s.cfg.boPipe = false → t.boReg = s.boReg ∨ t.boReg = BoReg.zero) : t.Inv where
  legal := hcfg ▸ h.legal
  pendCap := by
    rcases hpend with ⟨hp, -⟩ | ⟨hp, -⟩
    · rw [hp, hcfg]; exact h.pendCap
    · rw [hp]; exact Nat.zero_le _
  pendShort := by
    rcases hpend with ⟨hp, -⟩ | ⟨hp, -⟩
    · rw [hp]; exact h.pendShort
    · rw [hp]; exact Nat.zero_le _
  pendIdle hbusy := by
    rcases hpend with ⟨hp, hsc⟩ | ⟨hp, -⟩
    · rw [busy_iff, hsc, ← busy_iff] at hbusy
      rw [hp]; exact h.pendIdle hbusy
    · exact hp
  pendStopped := by
    rcases hpend with ⟨hp, -⟩ | ⟨hp, -⟩
    · rw [hp]; exact h.pendStopped
    · rw [hp]; exact .inl (by decide)
  cursor := by
    rcases hpend with ⟨-, hsc⟩ | ⟨-, hcur⟩
    · rw [hsc]; exact h.cursor
    · exact hcur
  evqDepth := by
    rw [hcfg]
    exact hevq.length_le.trans h.evqDepth
  events e he := by
    rw [hcfg]
    exact h.events e (hevq.subset he)
  boReg hpipe := by
    rw [hcfg] at hpipe
    rcases hbo hpipe with hb | hb
    · rw [hb]; exact h.boReg hpipe
    · exact hb

/-- A finish leaves bytes that fit, stand where the scan stopped, or nothing (R170). -/
theorem State.Inv.finishScan {w : List Byte} {cur : Nat} (h : s.Inv) (hstopped : stopped (w.drop cur)) :
    (Machine.finishScan w cur s).Inv := by
  by_cases hfits : (w.drop cur).length ≤ s.cfg.pendCap
  · rw [finishScan_of_fits hfits]
    exact {
      legal := h.legal
      pendCap := hfits
      pendShort := length_le_of_stopped hstopped
      pendIdle := nofun
      pendStopped := hstopped
      cursor := trivial
      evqDepth := h.evqDepth
      events := h.events
      boReg := h.boReg }
  · have hover : s.cfg.pendCap < (w.drop cur).length := Nat.lt_of_not_le hfits
    refine h.of_sublist (by simp) (.inr ⟨?_, by simp [cursorInside]⟩) (by simp) fun _ => .inl (by simp)
    rw [finishScan_pend, if_pos hover]

/-- An accepted candidate's event agrees with its frame, and there is room for it (R168, R171). -/
theorem State.Inv.acceptFrame {w : List Byte} {cur : Nat} {ev : Event} (h : s.Inv) (hsc : s.sc = .scan w cur)
    (hd : scanDecision s.cfg s.skip w cur = .accept ev) (hroom : s.evqFull = false) :
    (Machine.acceptFrame w cur ev s).Inv := by
  have hbusy : s.busy = true := (busy_iff s).mpr ⟨w, cur, hsc⟩
  have hfree : s.evq.length ≠ s.cfg.evqDepth := fun hlen => by simp [(evqFull_iff s).mpr hlen] at hroom
  have hdepth := h.evqDepth
  exact {
    legal := h.legal
    pendCap := h.pendCap
    pendShort := h.pendShort
    pendIdle := fun _ => h.pendIdle hbusy
    pendStopped := h.pendStopped
    cursor := (scanDecision_accept_bounds hd).2
    evqDepth := by
      simp only [acceptFrame_evq, acceptFrame_cfg, List.length_append, List.length_singleton]
      omega
    events := fun e he => by
      rcases List.mem_append.mp he with hold | hnew
      · exact h.events e hold
      · rw [List.mem_singleton.mp hnew]
        exact eventWf_of_accept hd
    boReg := h.boReg }

theorem State.Inv.scanStep (h : s.Inv) : (Machine.scanStep s).Inv := by
  rcases scanStep_cases s with ⟨-, e⟩ | ⟨w, cur, hsc, ⟨hd, e⟩ | ⟨cause, hd, e⟩ | ⟨ev, -, -, e⟩ | ⟨ev, hd, hroom, e⟩⟩
  · rwa [e]
  · rw [e]
    exact h.finishScan (scanDecision_eq_finish_iff.mp hd)
  · rw [e]
    have hinside : cursorInside (.scan w (cur + 1)) := by
      have := scanDecision_reject_bounds hd
      show cur + 1 ≤ w.length
      omega
    have hempty : s.pend = [] := h.pendIdle ((busy_iff s).mpr ⟨w, cur, hsc⟩)
    exact h.of_sublist rfl (.inr ⟨hempty, hinside⟩) (.refl _) fun _ => .inl rfl
  · rwa [e]
  · rw [e]
    exact h.acceptFrame hsc hd hroom

/-- A push leaves `PEND` empty and the cursor at 0, or no scan (R162, R163). -/
theorem cursorInside_pushChunk (chunk : List Byte) (s : State) : cursorInside (pushChunk chunk s).sc := by
  rw [pushChunk_sc]
  split
  · exact trivial
  · exact Nat.zero_le _

theorem State.Inv.exec {i : Instr} (h : s.Inv) (he : Machine.exec i s = .next t) : t.Inv := by
  have keeps : s.pend = s.pend ∧ s.sc = s.sc := ⟨rfl, rfl⟩
  rcases exec_cases he with rfl | ⟨r, rfl⟩ | ⟨r, b, rfl⟩ | ⟨r, -, -, rfl⟩ | ⟨n, -, -, rfl⟩ | ⟨b, -, -, rfl⟩
    | ⟨-, -, rfl⟩ | ⟨ev, evs, -, -, rfl⟩ | ⟨c, d, -, -, rfl⟩
  · exact h
  · exact h.of_sublist rfl (.inl keeps) (.refl _) fun _ => .inl rfl
  · exact h.of_sublist rfl (.inl keeps) (.refl _) fun hpipe => .inl (by simp [hpipe])
  · exact h.of_sublist rfl (.inl keeps) (.refl _) fun _ => .inl rfl
  · exact h.of_sublist (by simp) (.inr ⟨by simp, cursorInside_pushChunk ..⟩) (by simp) fun _ => .inl (by simp)
  · exact h.of_sublist rfl (.inl keeps) (.refl _) fun _ => .inl rfl
  · exact h.of_sublist rfl (.inr ⟨rfl, h.cursor⟩) (List.nil_sublist _) fun _ => .inl rfl
  · exact h.of_sublist rfl (.inl keeps) (List.tail_sublist _) fun _ => .inl rfl
  · exact h.of_sublist rfl (.inl keeps) (.refl _) fun _ => .inl rfl

theorem State.Inv.settle (h : s.Inv) : (Machine.settle s).Inv :=
  h.of_sublist rfl (.inl ⟨rfl, rfl⟩) (.refl _) fun _ => .inl rfl

/-- Settles O51: every move keeps the invariant, after the step's bookkeeping. -/
theorem everyStepKeepsTheInvariant : Obligations.EveryStepKeepsTheInvariant := by
  intro s t h hstep
  have hs := h.settle
  rcases step_cases hstep with ⟨-, rfl⟩ | ⟨-, rfl⟩ | ⟨-, rfl⟩ | ⟨i, -, he⟩ | ⟨-, rfl⟩
  · exact hs.of_sublist rfl (.inr ⟨rfl, trivial⟩) (List.nil_sublist _) fun _ => .inr rfl
  · exact hs
  · exact hs.scanStep
  · exact hs.exec he
  · exact hs.of_sublist rfl (.inl ⟨rfl, rfl⟩) (.refl _) fun _ => .inl rfl

/-- Settles O50: nothing is pending, queued or scanned at reset. -/
theorem invariantHoldsAtReset : Obligations.InvariantHoldsAtReset := fun _ hlegal =>
  { legal := hlegal
    pendCap := Nat.zero_le _
    pendShort := Nat.zero_le _
    pendIdle := nofun
    pendStopped := .inl (Nat.zero_lt_two)
    cursor := trivial
    evqDepth := Nat.zero_le _
    events := nofun
    boReg := fun _ => rfl }

end

end Sys2Proof.Machine
end

section
/-! PROOF. The CRC (40_crc16.md): one step's forms, its linearity, the residue, the parts of a sequence. -/

namespace Sys2Proof.Machine

/-! ### Linearity (§3, laws 1 and 2) -/

/-- One turn is linear: the bit shifted out of an exclusive-or is that of the bits shifted out. -/
theorem crcBit_xor (x y : Half) : crcBit (x ^^^ y) = crcBit x ^^^ crcBit y := by
  have hshift : (x ^^^ y) <<< 1 = x <<< 1 ^^^ y <<< 1 := BitVec.shiftLeft_xor_distrib x y 1
  unfold crcBit
  rw [BitVec.getLsbD_xor, hshift]
  cases x.getLsbD 15 <;> cases y.getLsbD 15
  · rfl
  · exact BitVec.xor_assoc ..
  · show x <<< 1 ^^^ y <<< 1 ^^^ crcPoly = x <<< 1 ^^^ crcPoly ^^^ y <<< 1
    ac_rfl
  · show x <<< 1 ^^^ y <<< 1 = x <<< 1 ^^^ crcPoly ^^^ (y <<< 1 ^^^ crcPoly)
    have hcancel : x <<< 1 ^^^ crcPoly ^^^ (y <<< 1 ^^^ crcPoly) = x <<< 1 ^^^ y <<< 1 ^^^ (crcPoly ^^^ crcPoly) := by
      ac_rfl
    rw [hcancel, BitVec.xor_self, BitVec.xor_zero]

/-- The eight turns of a step (R102). -/
def crcTurns (r : Half) : Half := crcBit (crcBit (crcBit (crcBit (crcBit (crcBit (crcBit (crcBit r)))))))

theorem crcStep_eq (c : Half) (b : Byte) : crcStep c b = crcTurns (c ^^^ (b.setWidth 16 <<< 8)) := rfl

theorem crcTurns_xor (x y : Half) : crcTurns (x ^^^ y) = crcTurns x ^^^ crcTurns y := by
  simp only [crcTurns, crcBit_xor]

/-- Settles O16: the register and the byte enter by exclusive-or, and each turn is linear. -/
theorem crcStepIsLinear : Obligations.CrcStepIsLinear := by
  refine ⟨fun c₁ c₂ b₁ b₂ => ?_, rfl⟩
  have hbyte : (b₁ ^^^ b₂).setWidth 16 <<< 8 = (b₁.setWidth 16 <<< 8 ^^^ b₂.setWidth 16 <<< 8 : Half) := by
    rw [BitVec.setWidth_xor, BitVec.shiftLeft_xor_distrib]
  have hregroup : (c₁ ^^^ c₂) ^^^ (b₁.setWidth 16 <<< 8 ^^^ b₂.setWidth 16 <<< 8)
      = (c₁ ^^^ b₁.setWidth 16 <<< 8) ^^^ (c₂ ^^^ b₂.setWidth 16 <<< 8) := by
    ac_rfl
  rw [crcStep_eq, hbyte, hregroup, crcTurns_xor]
  rfl

/-! ### The closed form and the bit equations (§3) -/

/-- A low byte is moved up: no bit of it is shifted out in eight turns. -/
theorem crcTurns_low (y : Byte) : crcTurns (y.setWidth 16) = y.setWidth 16 <<< 8 := by
  revert y
  decide

/-- The table of §3: what eight turns make of a high byte. -/
theorem crcTurns_high (x : Byte) :
    crcTurns (x.setWidth 16 <<< 8)
      = (x ^^^ (x >>> 4)).setWidth 16 <<< 12 ^^^ (x ^^^ (x >>> 4)).setWidth 16 <<< 5
        ^^^ (x ^^^ (x >>> 4)).setWidth 16 := by
  revert x
  decide

/-- A half word is its low byte and, moved up, its high byte. -/
theorem half_eq_low_xor_high (c : Half) :
    c = (c.extractLsb' 0 8).setWidth 16 ^^^ (c.extractLsb' 8 8).setWidth 16 <<< 8 := by
  refine BitVec.eq_of_getLsbD_eq fun i hi => ?_
  simp only [BitVec.getLsbD_xor, BitVec.getLsbD_shiftLeft, BitVec.getLsbD_setWidth, BitVec.getLsbD_extractLsb']
  by_cases h8 : i < 8
  · simp [hi, h8]
  · have hhigh : i - 8 < 16 ∧ i - 8 < 8 := by omega
    have hback : 8 + (i - 8) = i := by omega
    simp [hi, h8, hhigh, hback]

/-- One step moves the low byte up and looks the high byte, with the byte entered, up in the table (R105). -/
theorem crcStep_closed_form (c : Half) (b : Byte) :
    crcStep c b = c <<< 8
      ^^^ ((c.extractLsb' 8 8 ^^^ b) ^^^ ((c.extractLsb' 8 8 ^^^ b) >>> 4)).setWidth 16 <<< 12
      ^^^ ((c.extractLsb' 8 8 ^^^ b) ^^^ ((c.extractLsb' 8 8 ^^^ b) >>> 4)).setWidth 16 <<< 5
      ^^^ ((c.extractLsb' 8 8 ^^^ b) ^^^ ((c.extractLsb' 8 8 ^^^ b) >>> 4)).setWidth 16 := by
  have henter : c ^^^ b.setWidth 16 <<< 8
      = (c.extractLsb' 0 8).setWidth 16 ^^^ (c.extractLsb' 8 8 ^^^ b).setWidth 16 <<< 8 := by
    conv_lhs => rw [half_eq_low_xor_high c]
    rw [BitVec.setWidth_xor, BitVec.shiftLeft_xor_distrib, BitVec.xor_assoc]
  have hlow : (c.extractLsb' 0 8).setWidth 16 <<< 8 = c <<< 8 := by
    refine BitVec.eq_of_getLsbD_eq fun i hi => ?_
    have hdown : i - 8 < 16 ∧ i - 8 < 8 := by omega
    simp [hi, hdown]
  rw [crcStep_eq, henter, crcTurns_xor, crcTurns_low, crcTurns_high, hlow]
  simp only [BitVec.xor_assoc]

/-- The bit equations are the bits of the closed form (R106). -/
theorem crcEquation_crcStep (c : Half) (b : Byte) : crcEquation c b (crcStep c b) := by
  rw [crcStep_closed_form]
  simp only [crcEquation, BitVec.getLsbD_xor, BitVec.getLsbD_shiftLeft, BitVec.getLsbD_setWidth,
    BitVec.getLsbD_ushiftRight, BitVec.getLsbD_extractLsb']
  simp

/-- Settles O15: the table of §3 for the high byte with the byte entered, and the bits of that closed form. -/
theorem crcStepHasItsEquivalentForms : Obligations.CrcStepHasItsEquivalentForms :=
  fun c b => ⟨crcStep_closed_form c b, crcEquation_crcStep c b⟩

/-- Settles O14: the CRC run on each example. -/
theorem crcWorkedExamples : Obligations.CrcWorkedExamples := by
  unfold Obligations.CrcWorkedExamples
  decide +kernel

/-! ### The parts of a sequence (R104) -/

theorem crcFrom_append (c : Half) (a b : List Byte) : crcFrom c (a ++ b) = crcFrom (crcFrom c a) b := by
  induction a generalizing c with
  | nil => rfl
  | cons x xs ih => exact ih _

/-- The groups of `CRC.OF` are its bytes in order, so its folds give their CRC (R80). -/
theorem valueOfFolds_groupsOf {u : Nat} (hu : 1 ≤ u) {fuel : Nat} {bs : List Byte} (c : Half)
    (hfuel : bs.length ≤ fuel) :
    valueOfFolds c (foldCommands c (groupsOf u fuel bs)) = crcFrom c bs := by
  induction fuel generalizing c bs with
  | zero => rw [List.eq_nil_of_length_eq_zero (Nat.le_zero.mp hfuel)]; rfl
  | succ fuel ih =>
    cases bs with
    | nil => rfl
    | cons b bs =>
      have hrest : ((b :: bs).drop u).length ≤ fuel := by
        rw [List.length_drop, List.length_cons]
        rw [List.length_cons] at hfuel
        omega
      show valueOfFolds (crcFrom c ((b :: bs).take u)) (foldCommands (crcFrom c ((b :: bs).take u)) _) = _
      rw [ih _ hrest, ← crcFrom_append, List.take_append_drop]

/-- No group is empty or longer than CRC_UNROLL. -/
theorem length_of_mem_groupsOf {u : Nat} (hu : 1 ≤ u) {fuel : Nat} {bs g : List Byte} (hg : g ∈ groupsOf u fuel bs) :
    1 ≤ g.length ∧ g.length ≤ u := by
  induction fuel generalizing bs with
  | zero => cases hg
  | succ fuel ih =>
    cases bs with
    | nil => cases hg
    | cons b bs =>
      rcases List.mem_cons.mp hg with rfl | hlater
      · rw [List.length_take, List.length_cons]
        omega
      · exact ih hlater

/-- Each command of the folds folds one of the groups. -/
theorem mem_foldCommands {c : Half} {gs : List (List Byte)} {i : Instr} (hi : i ∈ foldCommands c gs) :
    ∃ c', ∃ g ∈ gs, i = .crcFold c' g := by
  induction gs generalizing c with
  | nil => cases hi
  | cons g gs ih =>
    rcases List.mem_cons.mp hi with rfl | hlater
    · exact ⟨c, g, List.mem_cons_self, rfl⟩
    · obtain ⟨c', g', hg', h⟩ := ih hlater
      exact ⟨c', g', List.mem_cons_of_mem _ hg', h⟩

/-- Settles O18: the fold of a list, and `CRC.OF` by its groups. -/
theorem crcOfASequenceSplitsAnywhere : Obligations.CrcOfASequenceSplitsAnywhere := by
  refine ⟨crcFrom_append, fun p m hlegal => ?_⟩
  obtain ⟨hunroll, h8, -⟩ := p.legal_iff.mp hlegal
  refine ⟨valueOfFolds_groupsOf hunroll _ le_rfl, fun i hi => ?_⟩
  obtain ⟨c, g, hg, rfl⟩ := mem_foldCommands hi
  obtain ⟨hpos, hle⟩ := length_of_mem_groupsOf hunroll hg
  simp only [WellFormed, Bool.and_eq_true, decide_eq_true_eq]
  omega

/-! ### The residue (§3, laws 3 and 4) -/

/-- A register whose high byte is entered again keeps its low byte, moved up. -/
theorem crcStep_high (c : Half) : crcStep c (c.extractLsb' 8 8) = (c.extractLsb' 0 8).setWidth 16 <<< 8 := by
  have hcancel : c ^^^ (c.extractLsb' 8 8).setWidth 16 <<< 8 = (c.extractLsb' 0 8).setWidth 16 := by
    refine (congrArg (· ^^^ (c.extractLsb' 8 8).setWidth 16 <<< 8) (half_eq_low_xor_high c)).trans ?_
    simp only [BitVec.xor_assoc, BitVec.xor_self, BitVec.xor_zero]
  rw [crcStep_eq, hcancel, crcTurns_low]

/-- A byte entered into a register that holds it in its high byte alone leaves zero. -/
theorem crcStep_cancel (y : Byte) : crcStep (y.setWidth 16 <<< 8) y = 0 := by
  rw [crcStep_eq, BitVec.xor_self]
  rfl

/-- Folding a register's own two bytes, high byte first, gives zero. -/
theorem crcFrom_bytes16be (c : Half) : crcFrom c (bytes16be c) = 0 := by
  show crcStep (crcStep c (c.extractLsb' 8 8)) (c.extractLsb' 0 8) = 0
  rw [crcStep_high, crcStep_cancel]

/-- A field read puts the high byte above the low byte (R10). -/
theorem u16be_eq_append (s : List Byte) (i : Nat) : u16be s i = byteAt s i ++ byteAt s (i + 1) :=
  BitVec.setWidth_append_eq_shiftLeft_setWidth_or.symm

/-- The two bytes of a 16-bit field are its big-endian image (R10, R43). -/
theorem bytes16be_u16be (s : List Byte) (i : Nat) : bytes16be (u16be s i) = [byteAt s i, byteAt s (i + 1)] := by
  rw [u16be_eq_append]
  exact congrArg₂ (fun hi lo => [hi, lo]) BitVec.extractLsb'_append_eq_left BitVec.extractLsb'_append_eq_right

/-- The last two bytes of a sequence. -/
theorem drop_length_sub_two {s : List Byte} (h : 2 ≤ s.length) :
    s.drop (s.length - 2) = [byteAt s (s.length - 2), byteAt s (s.length - 2 + 1)] := by
  have h0 : s.length - 2 < s.length := by omega
  have h1 : s.length - 2 + 1 < s.length := by omega
  have hend : s.length ≤ s.length - 2 + 1 + 1 := by omega
  rw [List.drop_eq_getElem_cons h0, List.drop_eq_getElem_cons h1, List.drop_eq_nil_of_le hend, byteAt, byteAt,
    List.getD_eq_getElem _ _ h0, List.getD_eq_getElem _ _ h1]

/-- A valid frame is its body and the body's CRC (R72). -/
theorem validFrame_eq_body_crc {f : List Byte} (h : validFrame f = true) :
    f = f.take (f.length - 2) ++ bytes16be (crc16 (f.take (f.length - 2))) := by
  simp only [validFrame, Bool.and_eq_true, decide_eq_true_eq] at h
  obtain ⟨⟨h5, -⟩, htrailer⟩ := h
  have h2 : 2 ≤ f.length := le_trans (by decide) h5
  rw [← htrailer, bytes16be_u16be, ← drop_length_sub_two h2, List.take_append_drop]

/-- The CRC of a message and its CRC is zero. -/
theorem crc16_append_crc (m : List Byte) : crc16 (m ++ bytes16be (crc16 m)) = 0 := by
  rw [crc16, crcFrom_append]
  exact crcFrom_bytes16be _

/-- A valid frame in front of other bytes does not change their CRC. -/
theorem crc16_validFrame_append {f : List Byte} (h : validFrame f = true) (t : List Byte) :
    crc16 (f ++ t) = crc16 t := by
  have hzero : crc16 f = 0 := by
    rw [validFrame_eq_body_crc h]
    exact crc16_append_crc _
  rw [crc16, crcFrom_append]
  exact congrArg (crcFrom · t) hzero

/-- Settles O17: folding a register's own bytes gives zero, and a frame's CRC is that of its body. -/
theorem crcResidueOfAFrameIsZero : Obligations.CrcResidueOfAFrameIsZero :=
  ⟨crc16_append_crc, fun _ t h => crc16_validFrame_append h t⟩

/-! ### `CRC.FOLD` and the direct port (R103) -/

/-- Settles O13: the rows of format C, the fold of a well-formed command, and the port's fold of as many lanes. -/
theorem crcFoldFoldsItsBytes : Obligations.CrcFoldFoldsItsBytes := by
  refine ⟨fun p c hop hn => (decode_of_lt_eight p hop).trans (if_pos hn), fun s crcIn d hpos h8 hunroll => ?_,
    fun p c hop hn => ⟨_, (decode_of_lt_eight p hop).trans (if_neg (by omega))⟩,
    fun p k q => ⟨fun hzero => ?_, fun _ hn => if_pos hn⟩⟩
  · rcases execCrcFold_cases crcIn d s with ⟨-, h⟩ | ⟨hnot, -⟩
    · exact h
    · simp [WellFormed, hpos, h8, hunroll] at hnot
  · rw [crcPortOut, hzero]
    exact if_pos (Nat.zero_le _)

end Sys2Proof.Machine
end

section
/-! PROOF. Packing against unpacking, and what a BO command's own cycle shows (41_byte_order.md §1, §4,
70_reset_and_hazards.md R243). -/

namespace Sys2Proof.Machine

/-! ### The result words as the next command reads them -/

/-- The lanes of a pack's result are its bytes. -/
theorem lane_packed_res (b0 b1 b2 b3 : Byte) (n : BitVec 3) :
    lane (packed b0 b1 b2 b3 n).res 0 = b0 ∧ lane (packed b0 b1 b2 b3 n).res 1 = b1
      ∧ lane (packed b0 b1 b2 b3 n).res 2 = b2 ∧ lane (packed b0 b1 b2 b3 n).res 3 = b3 :=
  let ⟨h0, h1, h2, h3, _⟩ := packResult_packed b0 b1 b2 b3 n
  ⟨h0, h1, h2, h3⟩

/-- An unpack's result is its value, zero-extended. -/
theorem unpacked_res_eq_setWidth (v : Word) : (unpacked v).res = v.setWidth 64 := by
  rw [unpacked_res, BitVec.setWidth_eq_append (by decide)]
  rfl

theorem unpacked_half_res (v : Half) : (unpacked (0#16 ++ v)).res = v.setWidth 64 := by
  have hword : v.setWidth 32 = 0#16 ++ v := (BitVec.setWidth_eq_append (by decide)).trans rfl
  rw [unpacked_res_eq_setWidth, ← hword, BitVec.setWidth_setWidth (by decide)]

/-- The low half word of an unpack's result is the value of a 16-bit unpack. -/
theorem unpacked_half_res_low (v : Half) : (unpacked (0#16 ++ v)).res.extractLsb' 0 16 = v := by
  rw [unpacked_half_res]
  refine BitVec.eq_of_getLsbD_eq fun i hi => ?_
  have h64 : i < 64 := by omega
  simp [hi, h64]

/-- The two bytes of a concatenation. -/
theorem extractLsb'_two_bytes (hi lo : Byte) :
    (hi ++ lo).extractLsb' 8 8 = hi ∧ (hi ++ lo).extractLsb' 0 8 = lo :=
  ⟨BitVec.extractLsb'_append_eq_left, BitVec.extractLsb'_append_eq_right⟩

/-! ### The round trips -/

/-- The result a BO command has answered with is its network's output. -/
theorem res_of_boReplied {i : Instr} {s t : State} {r : Reply} {out : BoReg}
    (hexec : exec i s = .next (boReplied s out)) (hnext : exec i s = .next t) (hresp : t.resp = some r) :
    r.res = out.res := by
  obtain rfl := Host.Outcome.next.inj (hexec.symm.trans hnext)
  obtain rfl := Option.some.inj hresp
  rfl

/-- Settles O23: the first command's result word is read by its lanes or its value, which the second puts in the same
order again. -/
theorem packAndUnpackAreInverse : Obligations.PackAndUnpackAreInverse := by
  intro s t u r q
  refine ⟨fun v ht hr hu hq => ?_, fun v ht hr hu hq => ?_, fun v ht hr hu hq => ?_, fun v ht hr hu hq => ?_,
    fun b0 b1 ht hr hu hq => ?_, fun b0 b1 ht hr hu hq => ?_, fun b0 b1 b2 b3 ht hr hu hq => ?_,
    fun b0 b1 b2 b3 ht hr hu hq => ?_⟩
  · have hfirst := res_of_boReplied (exec_boPack16Be s v) ht hr
    obtain ⟨h0, h1, -⟩ := lane_packed_res (v.extractLsb' 8 8) (v.extractLsb' 0 8) 0 0 2
    rw [res_of_boReplied (exec_boUnpack16Be t ..) hu hq, hfirst, h0, h1]
    exact (unpacked_half_res _).trans (congrArg (BitVec.setWidth 64) (half_bytes v))
  · have hfirst := res_of_boReplied (exec_boPack16Le s v) ht hr
    obtain ⟨h0, h1, -⟩ := lane_packed_res (v.extractLsb' 0 8) (v.extractLsb' 8 8) 0 0 2
    rw [res_of_boReplied (exec_boUnpack16Le t ..) hu hq, hfirst, h0, h1]
    exact (unpacked_half_res _).trans (congrArg (BitVec.setWidth 64) (half_bytes v))
  · have hfirst := res_of_boReplied (exec_boPackF32Be s v) ht hr
    obtain ⟨h0, h1, h2, h3⟩ :=
      lane_packed_res (v.extractLsb' 24 8) (v.extractLsb' 16 8) (v.extractLsb' 8 8) (v.extractLsb' 0 8) 4
    rw [res_of_boReplied (exec_boUnpackF32Be t ..) hu hq, hfirst, h0, h1, h2, h3, word_bytes, unpacked_res_eq_setWidth]
  · have hfirst := res_of_boReplied (exec_boPackF32Le s v) ht hr
    obtain ⟨h0, h1, h2, h3⟩ :=
      lane_packed_res (v.extractLsb' 0 8) (v.extractLsb' 8 8) (v.extractLsb' 16 8) (v.extractLsb' 24 8) 4
    rw [res_of_boReplied (exec_boUnpackF32Le t ..) hu hq, hfirst, h0, h1, h2, h3, word_bytes, unpacked_res_eq_setWidth]
  · have hvalue : r.res.extractLsb' 0 16 = b0 ++ b1 := by
      rw [res_of_boReplied (exec_boUnpack16Be s b0 b1) ht hr, unpacked_half_res_low]
    obtain ⟨hhigh, hlow⟩ := extractLsb'_two_bytes b0 b1
    obtain ⟨h0, h1, -⟩ := lane_packed_res b0 b1 0 0 2
    rw [res_of_boReplied (exec_boPack16Be t _) hu hq, hvalue, hhigh, hlow]
    exact ⟨h0, h1⟩
  · have hvalue : r.res.extractLsb' 0 16 = b1 ++ b0 := by
      rw [res_of_boReplied (exec_boUnpack16Le s b0 b1) ht hr, unpacked_half_res_low]
    obtain ⟨hhigh, hlow⟩ := extractLsb'_two_bytes b1 b0
    obtain ⟨h0, h1, -⟩ := lane_packed_res b0 b1 0 0 2
    rw [res_of_boReplied (exec_boPack16Le t _) hu hq, hvalue, hhigh, hlow]
    exact ⟨h0, h1⟩
  · have hvalue : r.res.extractLsb' 0 32 = b0 ++ b1 ++ b2 ++ b3 := by
      rw [res_of_boReplied (exec_boUnpackF32Be s b0 b1 b2 b3) ht hr]
      exact (unpackResult_unpacked _).1
    obtain ⟨h24, h16, h8, h0⟩ := extractLsb'_four_bytes b3 b2 b1 b0
    rw [res_of_boReplied (exec_boPackF32Be t _) hu hq, hvalue, h24, h16, h8, h0]
    exact lane_packed_res b0 b1 b2 b3 4
  · have hvalue : r.res.extractLsb' 0 32 = b3 ++ b2 ++ b1 ++ b0 := by
      rw [res_of_boReplied (exec_boUnpackF32Le s b0 b1 b2 b3) ht hr]
      exact (unpackResult_unpacked _).1
    obtain ⟨h0, h8, h16, h24⟩ := extractLsb'_four_bytes b0 b1 b2 b3
    rw [res_of_boReplied (exec_boPackF32Le t _) hu hq, hvalue, h0, h8, h16, h24]
    exact lane_packed_res b0 b1 b2 b3 4

/-! ### The issue cycle (R243) -/

/-- Every BO command completes from every state, with an output that depends on its operands alone. -/
theorem exec_of_isBo {i : Instr} (hbo : isBo i = true) : ∃ out : BoReg, ∀ s, exec i s = .next (boReplied s out) := by
  cases i with
  | boPack16Be v => exact ⟨_, fun s => exec_boPack16Be s v⟩
  | boPack16Le v => exact ⟨_, fun s => exec_boPack16Le s v⟩
  | boPackF32Be v => exact ⟨_, fun s => exec_boPackF32Be s v⟩
  | boPackF32Le v => exact ⟨_, fun s => exec_boPackF32Le s v⟩
  | boUnpack16Be b0 b1 => exact ⟨_, fun s => exec_boUnpack16Be s b0 b1⟩
  | boUnpack16Le b0 b1 => exact ⟨_, fun s => exec_boUnpack16Le s b0 b1⟩
  | boUnpackF32Be b0 b1 b2 b3 => exact ⟨_, fun s => exec_boUnpackF32Be s b0 b1 b2 b3⟩
  | boUnpackF32Le b0 b1 b2 b3 => exact ⟨_, fun s => exec_boUnpackF32Le s b0 b1 b2 b3⟩
  | _ => simp [isBo] at hbo

/-- Settles O24: with the register, a BO command's cycle shows what the one before it loaded. -/
theorem earlySampleShowsThePreviousBoResult : Obligations.EarlySampleShowsThePreviousBoResult := by
  intro s i hi
  obtain ⟨out, hexec⟩ := exec_of_isBo hi
  refine ⟨fun hpipe j hj => ?_, fun hpipe hzero => ⟨_, _, hexec s, rfl, ?_⟩, fun hpipe => ⟨_, _, hexec s, rfl, ?_⟩⟩
  · obtain ⟨before, hbefore⟩ := exec_of_isBo hj
    refine ⟨_, _, _, _, hbefore s, rfl, hexec _, rfl, ?_⟩
    simp [boReplied, hpipe]
  · simp only [hpipe, if_true, hzero]
    decide
  · simp [hpipe]

end Sys2Proof.Machine
end

section
/-! PROOF. The commands' own results: `FLV.CHECK` (42_length_validator.md §3), the reassembler's commands
(43_reassembler.md §2, §5), and the reads (20_memory.md R47). -/

namespace Sys2Proof.Machine

/-! ### `FLV.CHECK` -/

/-- The fields of `FLV.CHECK`'s result word (R65). -/
theorem verdictWord_fields (v : Verdict) :
    (verdictWord v).getLsbD 0 = v.ok ∧ (verdictWord v).extractLsb' 1 4 = categoryCode v.cat
      ∧ (verdictWord v).extractLsb' 5 3 = reasonCode v.reason ∧ (verdictWord v).extractLsb' 8 56 = 0 :=
  ⟨getLsbD_of_extractLsb' BitVec.extractLsb'_append_eq_right,
    extract_above BitVec.extractLsb'_append_eq_right,
    extract_above (extract_above BitVec.extractLsb'_append_eq_right),
    extract_above (extract_above BitVec.extractLsb'_append_eq_left)⟩

/-- Code 0 is the reason `ok` alone (R73). -/
theorem reasonCode_eq_zero_iff (r : Reason) : reasonCode r = 0 ↔ r = .ok := by
  cases r <;> decide

/-- Settles O25: the fields of the word; the validator gives the reason `ok` exactly when it accepts. -/
theorem flvCheckAnswersTheVerdict : Obligations.FlvCheckAnswersTheVerdict := by
  intro s id len cfg
  obtain ⟨hcat, -, hreason, -⟩ := flvAcceptsByCategoryAndLength s.cfg.ids id len cfg
  obtain ⟨hokBit, hcatBits, hreasonBits, hzero⟩ := verdictWord_fields (flv s.cfg.ids id len cfg)
  refine ⟨_, rfl, hokBit, hcatBits.trans (congrArg categoryCode hcat), hreasonBits, hzero, ?_⟩
  rw [hreasonBits, reasonCode_eq_zero_iff, hokBit, hreason]

section
variable {s : State}

/-! ### `RA.PUSH`, `RA.SETPOL` and `RA.CLEAR` -/

/-- Settles O28: busy, the command waits; idle, the overflow test decides. -/
theorem raPushStartsTheScan : Obligations.RaPushStartsTheScan := by
  intro s n
  refine ⟨exec_of_busy rfl, fun hidle hbytes hfits => ?_, fun hidle hbytes hover => ?_⟩
  · have hlen : (s.pend ++ s.stream.take n.toNat).length = s.pend.length + n.toNat := by simp [hbytes]
    have hwork : workOverflow s.cfg (s.pend ++ s.stream.take n.toNat).length = false := by
      rw [hlen, Bool.eq_false_iff, ne_eq, workOverflow_iff]
      exact hfits
    rw [exec_raPush_of_idle hidle hbytes, pushChunk_of_fits (by exact hwork)]
    rfl
  · exact ⟨_, (raPushOverflowsTheWorkingBuffer s n hidle hbytes).1 hover, rfl, rfl, rfl, rfl⟩

/-- Settles O30: the three commands wait for `SC = Idle`, so `cmd_ready` is 0; once idle, a chunk that has arrived is
all `RA.PUSH` needs. -/
theorem commandsHoldWhileBusy : Obligations.CommandsHoldWhileBusy := by
  intro s n skip hbusy
  refine ⟨exec_of_busy rfl hbusy, exec_of_busy rfl hbusy, exec_of_busy rfl hbusy, fun c i hc hd hi => ?_,
    fun c hc hd hbytes => ?_⟩
  · have hwait : waitsForIdle i = true := by rcases hi with rfl | rfl | rfl <;> rfl
    simp [State.cmdReady, hostMove_of_ok hc hd, heldByBusy, hwait, hbusy]
  · have hmove : hostMove { s with sc := .idle } = .command (.raPush n) := hostMove_of_ok hc hd
    have harrived : ¬ s.stream.length < n.toNat := Nat.not_lt.mpr hbytes
    simp [hostReady, hmove, holds, heldByBusy, State.busy, chunkBytes, harrived]

/-- Settles O31: the row of the opcode map, then busy or idle. -/
theorem raSetpolWritesThePolicy : Obligations.RaSetpolWritesThePolicy := by
  intro s skip c
  obtain ⟨-, -, -, -, -, -, -, -, -, -, -, hC1, -⟩ := opcodeMapNamesItsCommands s.cfg c
  exact ⟨hC1, exec_of_busy rfl, fun hidle => if_neg (by simp [hidle])⟩

/-- Settles O35: the row of the opcode map, then busy or idle. -/
theorem raClearRecreatesTheDecoder : Obligations.RaClearRecreatesTheDecoder := by
  intro s c
  obtain ⟨-, -, -, -, -, -, -, -, -, -, -, -, -, -, -, hC5, -⟩ := opcodeMapNamesItsCommands s.cfg c
  exact ⟨hC5, exec_of_busy rfl, fun hidle => if_neg (by simp [hidle])⟩

/-! ### `RA.COUNT` and `RA.PENDLEN` -/

theorem readWord_of_idle (v : Word) (hidle : s.busy = false) :
    readWord v s = .next (replied s ⟨v.setWidth 64, [], none⟩) :=
  if_neg (by simp [hidle])

theorem readWord_of_busy (v : Word) (hbusy : s.busy = true) :
    readWord v s = .next { replied s ⟨(Config.freeWord s.draws).setWidth 64, [], none⟩ with draws := s.draws + 1 } :=
  if_pos hbusy

/-- Settles O33: the row of the opcode map, then the register or a free word. -/
theorem raCountReadsTheCounter : Obligations.RaCountReadsTheCounter := by
  intro s c
  obtain ⟨-, -, -, -, -, -, -, -, -, -, -, -, -, hC3, -⟩ := opcodeMapNamesItsCommands s.cfg c
  exact ⟨hC3, readWord_of_idle s.fcount, fun hbusy => ⟨_, readWord_of_busy s.fcount hbusy⟩⟩

/-- Settles O34: the row of the opcode map, then the register or a free word. -/
theorem raPendlenReadsTheLength : Obligations.RaPendlenReadsTheLength := by
  intro s c
  obtain ⟨-, -, -, -, -, -, -, -, -, -, -, -, -, -, hC4, -⟩ := opcodeMapNamesItsCommands s.cfg c
  exact ⟨hC4, readWord_of_idle s.pendLen, fun hbusy => ⟨_, readWord_of_busy s.pendLen hbusy⟩⟩

/-! ### The reads (R47) -/

/-- What R47 says of a read `i` in the state `s`: it changes the port's side alone, `BO_REG` if it is a BO command of a
build that has it, and the draw counter where its value is unspecified; where it is specified, issuing it again answers
the same. -/
def ReadRepeats (i : Instr) (s : State) : Prop :=
  ∃ (r : Reply) (b : BoReg) (n : Nat),
    exec i s = .next { s with cmds := s.cmds.tail, resp := some r, boReg := b, draws := n }
    ∧ (isBo i = false ∨ s.cfg.boPipe = false → b = s.boReg)
    ∧ (s.busy = false ∨ (i ≠ .raCount ∧ i ≠ .raPendlen) → n = s.draws
        ∧ ∃ t q, exec i { s with cmds := s.cmds.tail, resp := some r, boReg := b, draws := n } = .next t
            ∧ t.resp = some q ∧ q.res = r.res ∧ q.dout = r.dout)

/-- A command that replies alike before and after its own reply is such a read. -/
theorem readRepeats_of_replied {i : Instr} {r : Reply} (hfirst : exec i s = .next (replied s r))
    (hagain : exec i (replied s r) = .next (replied (replied s r) r)) : ReadRepeats i s :=
  ⟨r, s.boReg, s.draws, hfirst, fun _ => rfl, fun _ => ⟨rfl, _, r, hagain, rfl, rfl, rfl⟩⟩

/-- A register read is such a read: idle it repeats the register, busy it draws. -/
theorem readRepeats_of_readWord {i : Instr} {reg : State → Word} (hread : ∀ s, exec i s = readWord (reg s) s)
    (hreg : ∀ r, reg (replied s r) = reg s) (hi : i = .raCount ∨ i = .raPendlen) : ReadRepeats i s := by
  cases hbusy : s.busy with
  | false =>
    refine readRepeats_of_replied ((hread s).trans (readWord_of_idle _ hbusy)) ?_
    rw [hread, hreg]
    exact readWord_of_idle _ hbusy
  | true =>
    refine ⟨_, s.boReg, s.draws + 1, (hread s).trans (readWord_of_busy _ hbusy), fun _ => rfl, fun hspecified => ?_⟩
    rcases hspecified with hidle | ⟨hcount, hlen⟩
    · simp [hbusy] at hidle
    · exact absurd hi (not_or.mpr ⟨hcount, hlen⟩)

/-- A BO command is such a read: its output depends on its operands alone. -/
theorem readRepeats_of_isBo {i : Instr} (hbo : isBo i = true) : ReadRepeats i s := by
  obtain ⟨out, hexec⟩ := exec_of_isBo hbo
  refine ⟨_, _, s.draws, hexec s, fun h => ?_, fun _ => ⟨rfl, _, _, hexec _, rfl, rfl, rfl⟩⟩
  rcases h with hnot | hpipe
  · simp [hbo] at hnot
  · simp [hpipe]

/-- Settles O37: `RA.EVPOP` takes the oldest event; each of the other reads repeats. -/
theorem readsHaveNoSideEffect : Obligations.ReadsHaveNoSideEffect := by
  intro s
  refine ⟨fun ev evs hq => ⟨_, exec_raEvpop_of_cons hq, rfl⟩, fun i hread hwf => ?_⟩
  show ReadRepeats i s
  rcases hread with hbo | ⟨c, d, rfl⟩ | ⟨id, len, cfg, rfl⟩ | rfl | rfl | rfl
  · exact readRepeats_of_isBo hbo
  · have hfold : WellFormed s.cfg (.crcFold c d) = true := hwf c d rfl
    exact readRepeats_of_replied (if_pos hfold) (if_pos hfold)
  · exact readRepeats_of_replied rfl rfl
  · exact readRepeats_of_replied rfl rfl
  · exact readRepeats_of_readWord (reg := State.count) (fun _ => rfl) (fun _ => rfl) (.inl rfl)
  · exact readRepeats_of_readWord (reg := State.pendLen) (fun _ => rfl) (fun _ => rfl) (.inr rfl)

end

end Sys2Proof.Machine
end

section
/-! PROOF. Whole frames in the scan: what BUFFER_END computes (43_reassembler.md R175) and the delivery of a valid frame
(R176, 95_test_vectors.md E4). -/

namespace Sys2Proof.Machine

/-! ### The two CRC tests (R169) -/

/-- On a candidate that ends the buffer the two tests agree, in every build. -/
theorem crcTest_of_ends_buffer (slc : CrcSlice) {w : List Byte} {cur len : Nat} (hend : cur + len = w.length) :
    crcTest slc w cur len = crc16 (slice w cur (w.length - 2)) := by
  cases slc with
  | perFrame => rw [crcTest, hend]
  | bufferEnd => rfl

/-- Settles O47: BUFFER_END's slice is the frame and what follows it, and the frame drops out of the CRC. -/
theorem bufferEndComputesTheRestOfTheBuffer : Obligations.BufferEndComputesTheRestOfTheBuffer := by
  intro w cur len _
  refine ⟨fun hend => ?_, fun hafter hframe => ?_⟩
  · rw [crcTest_of_ends_buffer .bufferEnd hend, crcTest_of_ends_buffer .perFrame hend]
  · rw [crcTest, slice_split (b := cur + len) (by omega) (by omega)]
    exact crc16_validFrame_append hframe _

/-! ### Delivery -/

/-- What a valid frame is (R72). -/
theorem validFrame_iff (f : List Byte) :
    validFrame f = true ↔ 5 ≤ f.length ∧ (u16be f 0).toNat = f.length
      ∧ frameTrailer f f.length = crc16 (f.take (f.length - 2)) := by
  simp [validFrame, and_assoc]

/-- A field read as a number: 256 times the high byte and the low byte (R10). -/
theorem toNat_u16be (s : List Byte) (i : Nat) :
    (u16be s i).toNat = (byteAt s i).toNat * 256 + (byteAt s (i + 1)).toNat := by
  rw [u16be_eq_append, BitVec.toNat_append, ← Nat.shiftLeft_add_eq_or_of_lt (byteAt s (i + 1)).isLt, Nat.shiftLeft_eq]

/-- Behind a byte `0x00`, a field below 256 reads as a field of zero: its high byte is `0x00` too. -/
theorem u16be_zero_cons {s : List Byte} (h : (u16be s 0).toNat < 256) : u16be (0x00#8 :: s) 0 = 0 := by
  have hboth : u16be (0x00#8 :: s) 0 = 0x00#8 ++ byteAt s 0 := u16be_eq_append _ 0
  have hhigh : byteAt s 0 = 0x00#8 := by
    refine BitVec.eq_of_toNat_eq ?_
    rw [toNat_u16be] at h
    rw [BitVec.toNat_ofNat]
    omega
  rw [hboth, hhigh]
  rfl

/-- The event of a valid frame (R70): its own id, length and checksum, which agrees. -/
def validFrameEvent (p : Params) (f : List Byte) : Event :=
  ⟨frameId f, u16be f 0, crc16 (f.take (f.length - 2)), false, registry p.ids (frameId f), f⟩

section
variable {p : Params} {skip : Bool} {f : List Byte}

/-- A valid frame of an accepted id that ends the buffer is accepted, whatever is before it. -/
theorem scanDecision_of_validFrame (before : List Byte) (hvalid : validFrame f = true)
    (hok : (flv p.ids (frameId f) (u16be f 0) (frameCfg f)).ok = true) :
    scanDecision p skip (before ++ f) before.length = .accept (validFrameEvent p f) := by
  obtain ⟨h5, hlen, htrailer⟩ := (validFrame_iff f).mp hvalid
  have hdrop : (before ++ f).drop before.length = f := List.drop_left
  have hu : u16be (before ++ f) before.length = u16be f 0 :=
    (u16be_drop (before ++ f) before.length 0).symm.trans (congrArg (u16be · 0) hdrop)
  have hw : (before ++ f).length = before.length + f.length := List.length_append
  have hcand : slice (before ++ f) before.length (before.length + f.length) = f := by
    rw [← hw, slice_to_end, hdrop]
  have hbody : slice (before ++ f) before.length ((before ++ f).length - 2) = f.take (f.length - 2) := by
    rw [slice, hdrop, hw]
    congr 1
    omega
  rw [scanDecision_of_five_le (by omega) (by rw [hu]; omega) (by rw [hu]; omega), hu, hlen, hcand,
    crcTest_of_ends_buffer _ hw.symm, hbody, judgeFrame_of_valid (by simp [hlen, htrailer]) (by simp [hok])]
  simp [eventOf, validFrameEvent, flv_cat, hlen, htrailer]

/-- The scan of the frame finishes after it with nothing left. -/
theorem chunkLoop_of_validFrame (before : List Byte) (hvalid : validFrame f = true)
    (hok : (flv p.ids (frameId f) (u16be f 0) (frameCfg f)).ok = true) (fuel : Nat) (k : Word) :
    chunkLoop p skip (before ++ f) (fuel + 2) before.length k [] = ⟨[], k + 1, [validFrameEvent p f]⟩ := by
  obtain ⟨-, hlen, -⟩ := (validFrame_iff f).mp hvalid
  have hnext : before.length + (validFrameEvent p f).length.toNat = (before ++ f).length := by
    rw [List.length_append, validFrameEvent, hlen]
  have hnil : (before ++ f).drop (before ++ f).length = [] := List.drop_length
  have hdone : scanDecision p skip (before ++ f) (before ++ f).length = .finish :=
    scanDecision_eq_finish_iff.mpr (by rw [hnil]; exact .inl (by decide))
  rw [chunkLoop_succ, scanDecision_of_validFrame before hvalid hok]
  dsimp only
  rw [hnext, chunkLoop_succ, hdone]
  simp only [slice_to_end, hnil, List.nil_append]

end

/-- Settles O48: alone, the frame is scanned at once; behind a stray `0x00`, the length field of a frame shorter than
256 bytes begins with `0x00` too, so the first candidate has length 0 and is passed over uncounted. -/
theorem validFramesAreDelivered : Obligations.ValidFramesAreDelivered := by
  intro p skip k f hvalid hok ev
  obtain ⟨h5, hlen, -⟩ := (validFrame_iff f).mp hvalid
  obtain ⟨n, hn⟩ : ∃ n, f.length = n + 1 := Nat.exists_eq_add_one.mpr (by omega)
  refine ⟨?_, fun hshort => ?_⟩
  · show chunkLoop p skip f (f.length + 1) 0 k [] = _
    rw [hn]
    exact chunkLoop_of_validFrame [] hvalid hok n k
  · have hzero : u16be (0x00#8 :: f) 0 = 0 := u16be_zero_cons (by omega)
    have hstray : scanDecision p skip (0x00#8 :: f) 0 = .reject .zeroLength := by
      rw [scanDecision_of_lt_five (by rw [List.length_cons]; omega) (by rw [hzero]; simp) (by rw [hzero]; decide),
        hzero]
      rfl
    show chunkLoop p skip (0x00#8 :: f) (f.length + 1 + 1) 0 k [] = _
    rw [chunkLoop_succ, hstray, hn]
    exact chunkLoop_of_validFrame [0x00#8] hvalid hok n k

end Sys2Proof.Machine
end
